-- ==== Sys2Proof/Word.lean ====
section
/-! DEFINITION. The one word type of the machine. -/

namespace Sys2Proof

/-- A byte: every register, pointer, memory cell and stack cell is an unsigned value in 0..255, bit 0 the
least significant, and its arithmetic wraps modulo 256 (`00_scope.md` R7, R8). -/
abbrev Byte := BitVec 8

end Sys2Proof
end

