-- ==== Sys2Proof/Syntax.lean ====
section
/-! DEFINITION. The instruction set as syntax: one constructor for each row of spec/opcode_table.json
(`30_encoding.md` R64). No register field exists: the register is part of the opcode (R61). -/

namespace Sys2Proof

/-- The 47 named opcodes of `30_encoding.md` R64. The four load-immediate instructions carry the byte that follows
their opcode (R62). `shl` and `shr` are names without a handler (R66, R67). -/
inductive Instr where
  /-- HALT, opcode 0 (`40_basic.md` R80). -/
  | halt
  /-- NOP, opcode 1 (`40_basic.md` R81). -/
  | nop
  /-- BREAK, opcode 2 (`40_basic.md` R82). -/
  | brk
  /-- NOT, opcode 10 (`41_logic.md` R85). -/
  | not
  /-- AND, opcode 11 (`41_logic.md` R86). -/
  | and
  /-- OR, opcode 12 (`41_logic.md` R87). -/
  | or
  /-- XOR, opcode 13 (`41_logic.md` R88). -/
  | xor
  /-- ADD, opcode 20 (`42_arithmetic.md` R91). -/
  | add
  /-- SUB, opcode 21 (`42_arithmetic.md` R92). -/
  | sub
  /-- MUL, opcode 22 (`42_arithmetic.md` R93). -/
  | mul
  /-- DIV, opcode 23 (`42_arithmetic.md` R94). -/
  | div
  /-- INC, opcode 30 (`43_incdec.md` R96). -/
  | inc
  /-- DEC, opcode 31 (`43_incdec.md` R97). -/
  | dec
  /-- SHL, opcode 40 (`30_encoding.md` R66). -/
  | shl
  /-- SHR, opcode 41 (`30_encoding.md` R67). -/
  | shr
  /-- SET_A_VAL, opcode 50 (`44_load_immediate.md` R101). -/
  | setAVal (imm8 : Byte)
  /-- SET_X_VAL, opcode 51 (`44_load_immediate.md` R102). -/
  | setXVal (imm8 : Byte)
  /-- SET_Y_VAL, opcode 52 (`44_load_immediate.md` R103). -/
  | setYVal (imm8 : Byte)
  /-- SET_Z_VAL, opcode 53 (`44_load_immediate.md` R104). -/
  | setZVal (imm8 : Byte)
  /-- PUSH_STATUS, opcode 60 (`45_stack.md` R106). -/
  | pushStatus
  /-- PUSH_A, opcode 61 (`45_stack.md` R107). -/
  | pushA
  /-- PUSH_X, opcode 62 (`45_stack.md` R108). -/
  | pushX
  /-- PUSH_Y, opcode 63 (`45_stack.md` R109). -/
  | pushY
  /-- PUSH_Z, opcode 64 (`45_stack.md` R110). -/
  | pushZ
  /-- PULL_STATUS, opcode 65 (`45_stack.md` R112). -/
  | pullStatus
  /-- PULL_A, opcode 66 (`45_stack.md` R113). -/
  | pullA
  /-- PULL_X, opcode 67 (`45_stack.md` R114). -/
  | pullX
  /-- PULL_Y, opcode 68 (`45_stack.md` R115). -/
  | pullY
  /-- PULL_Z, opcode 69 (`45_stack.md` R116). -/
  | pullZ
  /-- CLEAR_STATUS, opcode 70 (`46_flag_clear.md` R117). -/
  | clearStatus
  /-- CLEAR_CARRY, opcode 71 (`46_flag_clear.md` R118). -/
  | clearCarry
  /-- CLEAR_DECIMAL, opcode 72 (`46_flag_clear.md` R119). -/
  | clearDecimal
  /-- CLEAR_INTERRUPT, opcode 73 (`46_flag_clear.md` R120). -/
  | clearInterrupt
  /-- CLEAR_OVERFLOW, opcode 74 (`46_flag_clear.md` R121). -/
  | clearOverflow
  /-- SET_STATUS, opcode 75 (`47_flag_set.md` R123). -/
  | setStatus
  /-- SET_CARRY, opcode 76 (`47_flag_set.md` R124). -/
  | setCarry
  /-- SET_DECIMAL, opcode 77 (`47_flag_set.md` R125). -/
  | setDecimal
  /-- SET_INTERRUPT, opcode 78 (`47_flag_set.md` R126). -/
  | setInterrupt
  /-- SET_OVERFLOW, opcode 79 (`47_flag_set.md` R127). -/
  | setOverflow
  /-- IS_EQ, opcode 80 (`48_compare.md` R130). -/
  | isEq
  /-- IS_GR, opcode 81 (`48_compare.md` R131). -/
  | isGr
  /-- IS_GRE, opcode 82 (`48_compare.md` R132). -/
  | isGre
  /-- IS_LS, opcode 83 (`48_compare.md` R133). -/
  | isLs
  /-- IS_LSE, opcode 84 (`48_compare.md` R134). -/
  | isLse
  /-- JUMP, opcode 90 (`49_jump.md` R136). -/
  | jump
  /-- JUMP_TRUE, opcode 91 (`49_jump.md` R137). -/
  | jumpTrue
  /-- JUMP_FALSE, opcode 92 (`49_jump.md` R138). -/
  | jumpFalse
  deriving DecidableEq, Repr

end Sys2Proof
end

