-- ==== Sys2Proof/Decode.lean ====
section
/-! DEFINITION. Decoding, total on any bytes and independent of any state (`30_encoding.md` R61, R63, R73), and the
encoder after it. -/

namespace Sys2Proof

/-- The instruction whose opcode byte is `op` and whose next byte is `imm8`; only the four load-immediate opcodes use
the second byte (`30_encoding.md` R60, R62). `none` is the spec's `Unbound` for the 209 values that have not even a
name (R65); the named unbound values 40 and 41 give `shl` and `shr`, whose meaning is the same fail-stop (R66, R67).
The whole byte is matched: it has no fields (R61). -/
def decodeBytes (op imm8 : Byte) : Option Instr :=
  match op.toNat with
  | 0 => some .halt
  | 1 => some .nop
  | 2 => some .brk
  | 10 => some .not
  | 11 => some .and
  | 12 => some .or
  | 13 => some .xor
  | 20 => some .add
  | 21 => some .sub
  | 22 => some .mul
  | 23 => some .div
  | 30 => some .inc
  | 31 => some .dec
  | 40 => some .shl
  | 41 => some .shr
  | 50 => some (.setAVal imm8)
  | 51 => some (.setXVal imm8)
  | 52 => some (.setYVal imm8)
  | 53 => some (.setZVal imm8)
  | 60 => some .pushStatus
  | 61 => some .pushA
  | 62 => some .pushX
  | 63 => some .pushY
  | 64 => some .pushZ
  | 65 => some .pullStatus
  | 66 => some .pullA
  | 67 => some .pullX
  | 68 => some .pullY
  | 69 => some .pullZ
  | 70 => some .clearStatus
  | 71 => some .clearCarry
  | 72 => some .clearDecimal
  | 73 => some .clearInterrupt
  | 74 => some .clearOverflow
  | 75 => some .setStatus
  | 76 => some .setCarry
  | 77 => some .setDecimal
  | 78 => some .setInterrupt
  | 79 => some .setOverflow
  | 80 => some .isEq
  | 81 => some .isGr
  | 82 => some .isGre
  | 83 => some .isLs
  | 84 => some .isLse
  | 90 => some .jump
  | 91 => some .jumpTrue
  | 92 => some .jumpFalse
  | _ => none

/-- Number of bytes of an instruction (`30_encoding.md` R60, R63). An unbound opcode has no length (R63): the 1 of
`shl` and `shr` is the opcode byte that a listing holds, and no step advances by it (log entry 13). -/
def Instr.length : Instr → Nat
  | .halt => 1
  | .nop => 1
  | .brk => 1
  | .not => 1
  | .and => 1
  | .or => 1
  | .xor => 1
  | .add => 1
  | .sub => 1
  | .mul => 1
  | .div => 1
  | .inc => 1
  | .dec => 1
  | .shl => 1
  | .shr => 1
  | .setAVal _ => 2
  | .setXVal _ => 2
  | .setYVal _ => 2
  | .setZVal _ => 2
  | .pushStatus => 1
  | .pushA => 1
  | .pushX => 1
  | .pushY => 1
  | .pushZ => 1
  | .pullStatus => 1
  | .pullA => 1
  | .pullX => 1
  | .pullY => 1
  | .pullZ => 1
  | .clearStatus => 1
  | .clearCarry => 1
  | .clearDecimal => 1
  | .clearInterrupt => 1
  | .clearOverflow => 1
  | .setStatus => 1
  | .setCarry => 1
  | .setDecimal => 1
  | .setInterrupt => 1
  | .setOverflow => 1
  | .isEq => 1
  | .isGr => 1
  | .isGre => 1
  | .isLs => 1
  | .isLse => 1
  | .jump => 1
  | .jumpTrue => 1
  | .jumpFalse => 1

/-- Why a list of bytes is not an instruction. -/
inductive DecodeError where
  /-- There is no byte at all. -/
  | noOpcode
  /-- The opcode value has no handler and no name (`30_encoding.md` R65). -/
  | unboundOpcode (op : Byte)
  /-- The list ends before the operand of a two-byte instruction. In a machine this cannot happen: the operand's
  address wraps (`10_state.md` R13). -/
  | operandMissing (op : Byte)
  deriving DecidableEq, Repr

/-- Decode the instruction at the head of a list of bytes, and give the bytes after it. -/
def decode : List Byte → Except DecodeError (Instr × List Byte)
  | [] => .error .noOpcode
  | op :: rest =>
    match decodeBytes op (rest.headD 0) with
    | none => .error (.unboundOpcode op)
    | some i =>
      match i.length, rest with
      | 1, _ => .ok (i, rest)
      | _, [] => .error (.operandMissing op)
      | _, _ :: rest' => .ok (i, rest')

/-- Byte `k` of an instruction whose bits are `w`, of which the table gives `nbits`: the bits above are 0, and byte 0
is the first byte in memory. -/
def tableByte (nbits w k : Nat) : Byte := BitVec.ofNat 8 (w % 2 ^ nbits / 256 ^ k)

/-- The instruction the decoder reads from an instruction word numbered as spec/opcode_table.json numbers it. -/
def decodeTableWord (nbits w : Nat) : Option Instr :=
  decodeBytes (tableByte nbits w 0) (tableByte nbits w 1)

/-- The opcode byte of an instruction: the numbering of `30_encoding.md` R64, which "must match exactly". -/
def Instr.opcode : Instr → Byte
  | .halt => 0
  | .nop => 1
  | .brk => 2
  | .not => 10
  | .and => 11
  | .or => 12
  | .xor => 13
  | .add => 20
  | .sub => 21
  | .mul => 22
  | .div => 23
  | .inc => 30
  | .dec => 31
  | .shl => 40
  | .shr => 41
  | .setAVal _ => 50
  | .setXVal _ => 51
  | .setYVal _ => 52
  | .setZVal _ => 53
  | .pushStatus => 60
  | .pushA => 61
  | .pushX => 62
  | .pushY => 63
  | .pushZ => 64
  | .pullStatus => 65
  | .pullA => 66
  | .pullX => 67
  | .pullY => 68
  | .pullZ => 69
  | .clearStatus => 70
  | .clearCarry => 71
  | .clearDecimal => 72
  | .clearInterrupt => 73
  | .clearOverflow => 74
  | .setStatus => 75
  | .setCarry => 76
  | .setDecimal => 77
  | .setInterrupt => 78
  | .setOverflow => 79
  | .isEq => 80
  | .isGr => 81
  | .isGre => 82
  | .isLs => 83
  | .isLse => 84
  | .jump => 90
  | .jumpTrue => 91
  | .jumpFalse => 92

/-- The bytes after the opcode (`30_encoding.md` R60, R62). -/
def Instr.operandBytes : Instr → List Byte
  | .halt => []
  | .nop => []
  | .brk => []
  | .not => []
  | .and => []
  | .or => []
  | .xor => []
  | .add => []
  | .sub => []
  | .mul => []
  | .div => []
  | .inc => []
  | .dec => []
  | .shl => []
  | .shr => []
  | .setAVal imm8 => [imm8]
  | .setXVal imm8 => [imm8]
  | .setYVal imm8 => [imm8]
  | .setZVal imm8 => [imm8]
  | .pushStatus => []
  | .pushA => []
  | .pushX => []
  | .pushY => []
  | .pushZ => []
  | .pullStatus => []
  | .pullA => []
  | .pullX => []
  | .pullY => []
  | .pullZ => []
  | .clearStatus => []
  | .clearCarry => []
  | .clearDecimal => []
  | .clearInterrupt => []
  | .clearOverflow => []
  | .setStatus => []
  | .setCarry => []
  | .setDecimal => []
  | .setInterrupt => []
  | .setOverflow => []
  | .isEq => []
  | .isGr => []
  | .isGre => []
  | .isLs => []
  | .isLse => []
  | .jump => []
  | .jumpTrue => []
  | .jumpFalse => []

/-- The bytes of an instruction, the opcode at the lower address (`20_memory.md` R44). -/
def encode (i : Instr) : List Byte := i.opcode :: i.operandBytes

end Sys2Proof
end

