-- ==== Sys2Proof/Config.lean ====
section
/-! DEFINITION. What the implementation fixes: the sizes (all fixed by the spec) and the one open parameter. -/

namespace Sys2Proof

/-- Number of cells of the memory array and of the stack array (`00_scope.md` R5). -/
def Config.arraySize : Nat := 256

/-- `SET_CARRY_STATUS_VALUE`, the 8-bit constant SET_CARRY writes to the whole status register, which the spec
leaves a parameter (`00_scope.md` R6, `47_flag_set.md` R124, D4). A FREE VALUE, log entry 1: it has no body, so
nothing can be proved of it, and a claim about SET_CARRY holds whatever it is. It is one constant for the whole
life of the machine, not a new value at each execution (`93_implementation_defined.md` U2). -/
opaque Config.setCarryStatusValue : Byte

end Sys2Proof
end

