-- ==== Sys2Proof/Machine/State.lean ====
section
/-! DEFINITION. The state of the machine as plain data, the reasons a step can stop, and the state after reset. -/

namespace Sys2Proof.Machine

/-- The eight flags, eight independent single-bit conditions that together are the status register (`10_state.md`
R16). Each is stored as one bit (R18, D3, log entry 4). -/
structure Flags where
  /-- Status bit 0: storage only (R23). -/
  carry : Bool
  /-- Status bit 1: the last result-producing instruction left 0 in its register (R20). -/
  zero : Bool
  /-- Status bit 2: the result of the last comparison (R21). -/
  trueFalse : Bool
  /-- Status bit 3: storage only, the machine has no interrupts (R23). -/
  interruptDisable : Bool
  /-- Status bit 4: storage only (R23). -/
  decimalMode : Bool
  /-- Status bit 5: stops the loop (R22). -/
  halt : Bool
  /-- Status bit 6: storage only (R23). -/
  overflow : Bool
  /-- Status bit 7: storage only (R24). -/
  negative : Bool
  deriving DecidableEq, Repr

/-- The fault record, the model-level value that stands for the one diagnostic the machine emits (`10_state.md` R31,
`60_exceptions.md` R142, D9, log entry 9). No instruction reads it. -/
inductive FaultRecord where
  /-- No fail-stop since Reset. -/
  | none
  /-- A fetched byte `op` at address `ip` had no handler (`60_exceptions.md` R141). -/
  | unknownOpcode (op ip : Byte)
  /-- DIV at address `ip` found Z = 0 (`60_exceptions.md` R143). -/
  | divideByZero (ip : Byte)
  deriving DecidableEq, Repr

/-- A byte array of 256 cells, held as its cells that do not read as an unlisted address does, addresses rising. The
two arrays of the machine, `mem` and `stack`, each have this form (`10_state.md` R26, R27, `20_memory.md` R40). -/
abbrev Memory := List Host.Cell

/-- The complete state: the architectural state of `10_state.md` R10 and the fault record of R31. -/
structure State where
  /-- Register A, the accumulator (R11). -/
  a : Byte
  /-- Register X (R11). -/
  x : Byte
  /-- Register Y (R11). -/
  y : Byte
  /-- Register Z (R11). -/
  z : Byte
  /-- The instruction pointer (R13). -/
  ip : Byte
  /-- The stack pointer, the next free slot (R15). -/
  sp : Byte
  /-- The status register (R16). -/
  flags : Flags
  /-- Memory: program and data, indexed by IP (R26). -/
  mem : Memory
  /-- The stack array, not a part of memory, indexed by SP (R27). -/
  stack : Memory
  /-- The fault record (R31). -/
  fault : FaultRecord
  deriving DecidableEq, Repr

/-- Why no next state exists. The fail-stops of `60_exceptions.md` are not here: each is a next state. -/
inductive Fault where
  /-- Raised by `step` alone, when F.HALT is 1: "no step exists on states with F.HALT = 1" (`10_state.md` R33,
  `60_exceptions.md` R147, `70_reset_and_hazards.md` R164). Safe: the machine does not go on here either; log
  entry 14. -/
  | halted
  deriving DecidableEq, Repr

/-- Why an instruction has no meaning. -/
inductive Refusal where
  /-- Raised by an arm of `exec` for an instruction that is not modelled yet. No arm raises it: every instruction of
  the table has its meaning. Safe. -/
  | notModelled (mnemonic : String)
  deriving DecidableEq, Repr

/-- What a step or a meaning answers. -/
abbrev Result := Host.Outcome State Fault Refusal

/-- Every flag 0. -/
def Flags.clear : Flags :=
  { carry := false, zero := false, trueFalse := false, interruptDisable := false,
    decimalMode := false, halt := false, overflow := false, negative := false }

/-- The machine after Reset: every piece of state is zero (`10_state.md` R32). A constructed machine that was never
reset is in the same state (`70_reset_and_hazards.md` R161, D10, log entry 10). -/
def State.reset : State :=
  { a := 0, x := 0, y := 0, z := 0, ip := 0, sp := 0,
    flags := Flags.clear, mem := [], stack := [], fault := .none }

end Sys2Proof.Machine
end

