-- ==== Sys2Proof/Machine/Flags.lean ====
section
/-! DEFINITION. The status byte and every flag computation of the spec. -/

namespace Sys2Proof.Machine

/-- A flag shifted to its place in the status byte. -/
def flagBit (f : Bool) (place : Nat) : Byte := BitVec.ofNat 8 f.toNat <<< place

/-- `Compose()`: "a pure bit-OR of each flag shifted into position" (`10_state.md` R16, R17). -/
def Flags.compose (f : Flags) : Byte :=
  flagBit f.carry 0 ||| flagBit f.zero 1 ||| flagBit f.trueFalse 2 ||| flagBit f.interruptDisable 3 |||
  flagBit f.decimalMode 4 ||| flagBit f.halt 5 ||| flagBit f.overflow 6 ||| flagBit f.negative 7

/-- `Decompose(v)`: all eight flags from the bits of `v`, each normalised to one bit (`10_state.md` R18, D3). -/
def Flags.decompose (v : Byte) : Flags :=
  { carry := v.getLsbD 0, zero := v.getLsbD 1, trueFalse := v.getLsbD 2, interruptDisable := v.getLsbD 3,
    decimalMode := v.getLsbD 4, halt := v.getLsbD 5, overflow := v.getLsbD 6, negative := v.getLsbD 7 }

/-- `SetZeroFrom(v)`: F.ZERO becomes 1 if `v` is 0, else 0 (`10_state.md` R20, D1, log entry 3). -/
def Flags.setZeroFrom (v : Byte) (f : Flags) : Flags := { f with zero := v == 0 }

/-- F.CARRY assigned. -/
def Flags.setCarry (b : Bool) (f : Flags) : Flags := { f with carry := b }

/-- F.TRUEFALSE assigned (`10_state.md` R21). -/
def Flags.setTrueFalse (b : Bool) (f : Flags) : Flags := { f with trueFalse := b }

/-- F.INTERRUPT_DISABLE assigned. -/
def Flags.setInterruptDisable (b : Bool) (f : Flags) : Flags := { f with interruptDisable := b }

/-- F.DECIMAL_MODE assigned. -/
def Flags.setDecimalMode (b : Bool) (f : Flags) : Flags := { f with decimalMode := b }

/-- F.HALT assigned (`10_state.md` R22). -/
def Flags.setHalt (b : Bool) (f : Flags) : Flags := { f with halt := b }

/-- F.OVERFLOW assigned. -/
def Flags.setOverflow (b : Bool) (f : Flags) : Flags := { f with overflow := b }

end Sys2Proof.Machine
end

