-- ==== Sys2Proof/Machine/Ops.lean ====
section
/-! DEFINITION. The named operations over the two byte arrays, the instruction pointer, the fetch and the fail-stop. -/

namespace Sys2Proof.Machine

/-- What an address that nothing has written reads as: the reset contents (`10_state.md` R32, `20_memory.md` R49). -/
def Memory.unlisted : Byte := 0

/-- The canonical form: addresses strictly rising, each inside the 256-cell array, no cell equal to what an unlisted
address reads as. -/
abbrev Memory.wf (m : Memory) : Prop :=
  m.Pairwise (fun p q => p.1 < q.1) ∧ ∀ c ∈ m, c.1 < Config.arraySize ∧ c.2 ≠ Memory.unlisted

/-- `MemRead(addr, 1)` and `StackRead(i)`: every address 0..255 exists and a read has no side effect
(`20_memory.md` R42, R43). -/
def Memory.read : Memory → Byte → Byte
  | [], _ => Memory.unlisted
  | (k, v) :: rest, addr => if k = addr.toNat then v else Memory.read rest addr

/-- The cell to list for a value at an address: none where the value is what an unlisted address reads as. -/
def Memory.cell (k : Nat) (v : Byte) : Memory := if v = Memory.unlisted then [] else [(k, v)]

/-- `MemWrite(addr, 1, v)` and `StackWrite(i, v)`, keeping the canonical form (`20_memory.md` R43, R54). -/
def Memory.write : Memory → Byte → Byte → Memory
  | [], addr, v => Memory.cell addr.toNat v
  | (k, w) :: rest, addr, v =>
    if k < addr.toNat then (k, w) :: Memory.write rest addr v
    else if k = addr.toNat then Memory.cell addr.toNat v ++ rest
    else Memory.cell addr.toNat v ++ (k, w) :: rest

/-- `IP <- (IP + n) mod 256` (`10_state.md` R13, R14). -/
def State.advance (n : Nat) (s : State) : State := { s with ip := s.ip + BitVec.ofNat 8 n }

/-- `IP <- target`, any byte being a legal target (`49_jump.md` R135). -/
def State.jumpTo (target : Byte) (s : State) : State := { s with ip := target }

/-- The flags replaced. -/
def State.setFlags (f : Flags) (s : State) : State := { s with flags := f }

/-- A write of the whole status register: `Decompose(v)`, HALT included (`10_state.md` R18, R22, log entry 12). -/
def State.writeStatus (v : Byte) (s : State) : State := s.setFlags (Flags.decompose v)

/-- The opcode fetch of a step, `MemRead(IP, 1)` (`70_reset_and_hazards.md` R162). -/
def State.fetchOpcode (s : State) : Byte := s.mem.read s.ip

/-- The byte at `(IP + 1) mod 256`, the operand of a two-byte instruction at IP (`30_encoding.md` R62). -/
def State.fetchOperand (s : State) : Byte := s.mem.read (s.ip + 1)

/-- The fail-stop, the machine's one exception entry: the fault record is set, F.HALT becomes 1, IP is kept; nothing
is saved, no mode or mask changes, control goes nowhere (`60_exceptions.md` R141, R143, R148). There is no return
from it: Reset alone clears F.HALT (R149). -/
def State.failStop (r : FaultRecord) (s : State) : State :=
  { s with flags := s.flags.setHalt true, fault := r }

/-- `raise FailStop(UnknownOpcode, op, IP)` (`60_exceptions.md` R141). -/
def State.unknownOpcode (op : Byte) (s : State) : State := s.failStop (.unknownOpcode op s.ip)

/-- `raise FailStop(DivideByZero, 23, IP)` (`60_exceptions.md` R143, D5, log entry 5). -/
def State.divideByZero (s : State) : State := s.failStop (.divideByZero s.ip)

/-- What `step` answers while F.HALT is 1: no step exists, and only Reset goes on from here (`10_state.md` R33,
`60_exceptions.md` R147, R149; log entry 14). -/
def State.noStep (_ : State) : Result := .fault .halted

/-- The cause code of a fault record (`60_exceptions.md` R140, D9). -/
def FaultRecord.code : FaultRecord → Nat
  | .none => 0
  | .unknownOpcode _ _ => 1
  | .divideByZero _ => 2

end Sys2Proof.Machine
end

