-- ==== Sys2Proof/Machine/Operands.lean ====
section
/-! DEFINITION. The operand forms: a register fixed by the opcode, the immediate, and the stack by post-increment push
and pre-decrement pull. -/

namespace Sys2Proof.Machine

/-- The four general registers (`10_state.md` R11). -/
inductive Reg where
  | a | x | y | z
  deriving DecidableEq, Repr

/-- Read of a general register. -/
def State.reg (r : Reg) (s : State) : Byte :=
  match r with
  | .a => s.a
  | .x => s.x
  | .y => s.y
  | .z => s.z

/-- Write of a general register; none is hard-wired (`10_state.md` R11). -/
def State.setReg (r : Reg) (v : Byte) (s : State) : State :=
  match r with
  | .a => { s with a := v }
  | .x => { s with x := v }
  | .y => { s with y := v }
  | .z => { s with z := v }

/-- A result written to a register, with ZERO set from it (`10_state.md` R20). -/
def State.setResult (r : Reg) (v : Byte) (s : State) : State :=
  (s.setReg r v).setFlags (s.flags.setZeroFrom v)

/-- A one-byte instruction's result in A: the register, ZERO, IP + 1 (`41_logic.md`, `42_arithmetic.md`,
`43_incdec.md`). -/
def State.resultToA (v : Byte) (s : State) : State := (s.setResult .a v).advance 1

/-- A load-immediate: the register, ZERO from it, IP + 2 (`44_load_immediate.md` R100). The two single advances of the
rule are one here: the operand's address in between is no visible state (`00_scope.md` R9). -/
def State.loadImmediate (r : Reg) (imm8 : Byte) (s : State) : State := (s.setResult r imm8).advance 2

/-- "push writes then increments": the write at the old SP, then `SP <- (SP + 1) mod 256` (`10_state.md` R15,
`45_stack.md` R105). -/
def State.push (v : Byte) (s : State) : State := { s with stack := s.stack.write s.sp v, sp := s.sp + 1 }

/-- "pull decrements then reads", first half: `SP <- (SP - 1) mod 256` (`45_stack.md` R111). -/
def State.dropTop (s : State) : State := { s with sp := s.sp - 1 }

/-- The stack cell that SP addresses. -/
def State.stackCell (s : State) : Byte := s.stack.read s.sp

/-- A push instruction of the value `v` (`45_stack.md` R105). -/
def State.pushValue (v : Byte) (s : State) : State := (s.push v).advance 1

/-- A pull instruction into a register: the cell at the new SP, no flag written (`45_stack.md` R111, D8). -/
def State.pullReg (r : Reg) (s : State) : State := (s.dropTop.setReg r s.dropTop.stackCell).advance 1

/-- A comparison's outcome stored in TRUEFALSE (`48_compare.md` R129). -/
def State.compare (holds : Bool) (s : State) : State :=
  (s.setFlags (s.flags.setTrueFalse holds)).advance 1

/-- A jump to A if the condition holds, else IP + 1 (`49_jump.md` R135, R137, R138). -/
def State.jumpIf (taken : Bool) (s : State) : State := if taken then s.jumpTo s.a else s.advance 1

end Sys2Proof.Machine
end

