-- ==== Sys2Proof/Machine/Arithmetic.lean ====
section
/-! DEFINITION. ADD, SUB, MUL, DIV (`42_arithmetic.md`): A op Z modulo 256; no flag but ZERO is written (R90). -/

namespace Sys2Proof.Machine

/-- ADD (R91). -/
def execAdd (s : State) : Result := .next (s.resultToA (s.a + s.z))

/-- SUB (R92). -/
def execSub (s : State) : Result := .next (s.resultToA (s.a - s.z))

/-- MUL: the low 8 bits of the product (R93). -/
def execMul (s : State) : Result := .next (s.resultToA (s.a * s.z))

/-- DIV: quotient to A, remainder to Z, both from the old values, ZERO from the quotient; with Z = 0 the fail-stop
(R94, D5, D6, log entries 5 and 6). -/
def execDiv (s : State) : Result := 
  if s.z = 0 then .next s.divideByZero
  else .next ((s.setReg .z (s.a.umod s.z)).resultToA (s.a.udiv s.z))

end Sys2Proof.Machine
end

