-- ==== Sys2Proof/Machine/Basic.lean ====
section
/-! DEFINITION. HALT, NOP, BREAK (`40_basic.md`). -/

namespace Sys2Proof.Machine

/-- HALT: F.HALT becomes 1, IP stays on the opcode (R80). -/
def execHalt (s : State) : Result := .next (s.setFlags (s.flags.setHalt true))

/-- NOP: IP + 1 (R81). -/
def execNop (s : State) : Result := .next (s.advance 1)

/-- BREAK: nothing changes, IP included, so a reached BREAK repeats for ever (R82, D2, log entry 2). -/
def execBrk (s : State) : Result := .next s

end Sys2Proof.Machine
end

