-- ==== Sys2Proof/Machine/Compare.lean ====
section
/-! DEFINITION. The five comparisons of A with Z, unsigned (`48_compare.md` R129, D7, log entry 7). -/

namespace Sys2Proof.Machine

/-- IS_EQ (R130). -/
def execIsEq (s : State) : Result := .next (s.compare (s.a == s.z))

/-- IS_GR: A > Z (R131). -/
def execIsGr (s : State) : Result := .next (s.compare (s.z.ult s.a))

/-- IS_GRE: A >= Z (R132). -/
def execIsGre (s : State) : Result := .next (s.compare (s.z.ule s.a))

/-- IS_LS: A < Z (R133). -/
def execIsLs (s : State) : Result := .next (s.compare (s.a.ult s.z))

/-- IS_LSE: A <= Z (R134). -/
def execIsLse (s : State) : Result := .next (s.compare (s.a.ule s.z))

end Sys2Proof.Machine
end

