-- ==== Sys2Proof/Machine/FlagClear.lean ====
section
/-! DEFINITION. CLEAR_STATUS and the four single-flag clears (`46_flag_clear.md`). -/

namespace Sys2Proof.Machine

/-- CLEAR_STATUS (R117). -/
def execClearStatus (s : State) : Result := .next ((s.writeStatus 0).advance 1)

/-- CLEAR_CARRY (R118). -/
def execClearCarry (s : State) : Result := .next ((s.setFlags (s.flags.setCarry false)).advance 1)

/-- CLEAR_DECIMAL (R119). -/
def execClearDecimal (s : State) : Result := .next ((s.setFlags (s.flags.setDecimalMode false)).advance 1)

/-- CLEAR_INTERRUPT (R120). -/
def execClearInterrupt (s : State) : Result := 
  .next ((s.setFlags (s.flags.setInterruptDisable false)).advance 1)

/-- CLEAR_OVERFLOW (R121). -/
def execClearOverflow (s : State) : Result := .next ((s.setFlags (s.flags.setOverflow false)).advance 1)

end Sys2Proof.Machine
end

