-- ==== Sys2Proof/Machine/FlagSet.lean ====
section
/-! DEFINITION. SET_STATUS, SET_CARRY and the three single-flag sets (`47_flag_set.md`). -/

namespace Sys2Proof.Machine

/-- SET_STATUS: A as a full status byte (R123). -/
def execSetStatus (s : State) : Result := .next ((s.writeStatus s.a).advance 1)

/-- SET_CARRY: the WHOLE status register becomes the parameter `SET_CARRY_STATUS_VALUE`, not bit 0 alone (R124, C2, D4,
log entry 1). -/
def execSetCarry (s : State) : Result := .next ((s.writeStatus Config.setCarryStatusValue).advance 1)

/-- SET_DECIMAL (R125). -/
def execSetDecimal (s : State) : Result := .next ((s.setFlags (s.flags.setDecimalMode true)).advance 1)

/-- SET_INTERRUPT (R126). -/
def execSetInterrupt (s : State) : Result := 
  .next ((s.setFlags (s.flags.setInterruptDisable true)).advance 1)

/-- SET_OVERFLOW (R127). -/
def execSetOverflow (s : State) : Result := .next ((s.setFlags (s.flags.setOverflow true)).advance 1)

end Sys2Proof.Machine
end

