-- ==== Sys2Proof/Machine/IncDec.lean ====
section
/-! DEFINITION. INC, DEC (`43_incdec.md`). -/

namespace Sys2Proof.Machine

/-- INC (R96). -/
def execInc (s : State) : Result := .next (s.resultToA (s.a + 1))

/-- DEC (R97). -/
def execDec (s : State) : Result := .next (s.resultToA (s.a - 1))

end Sys2Proof.Machine
end

