-- ==== Sys2Proof/Machine/Jump.lean ====
section
/-! DEFINITION. JUMP, JUMP_TRUE, JUMP_FALSE (`49_jump.md` R135): the target is A, absolute. -/

namespace Sys2Proof.Machine

/-- JUMP (R136). -/
def execJump (s : State) : Result := .next (s.jumpTo s.a)

/-- JUMP_TRUE (R137). -/
def execJumpTrue (s : State) : Result := .next (s.jumpIf s.flags.trueFalse)

/-- JUMP_FALSE (R138). -/
def execJumpFalse (s : State) : Result := .next (s.jumpIf (!s.flags.trueFalse))

end Sys2Proof.Machine
end

