-- ==== Sys2Proof/Machine/LoadImmediate.lean ====
section
/-! DEFINITION. SET_A_VAL, SET_X_VAL, SET_Y_VAL, SET_Z_VAL (`44_load_immediate.md` R100). -/

namespace Sys2Proof.Machine

/-- SET_A_VAL (R101). -/
def execSetAVal (imm8 : Byte) (s : State) : Result := .next (s.loadImmediate .a imm8)

/-- SET_X_VAL (R102). -/
def execSetXVal (imm8 : Byte) (s : State) : Result := .next (s.loadImmediate .x imm8)

/-- SET_Y_VAL (R103). -/
def execSetYVal (imm8 : Byte) (s : State) : Result := .next (s.loadImmediate .y imm8)

/-- SET_Z_VAL (R104). -/
def execSetZVal (imm8 : Byte) (s : State) : Result := .next (s.loadImmediate .z imm8)

end Sys2Proof.Machine
end

