-- ==== Sys2Proof/Machine/Logic.lean ====
section
/-! DEFINITION. NOT, AND, OR, XOR (`41_logic.md`). The three two-operand names combine A with A and do not read Z (C1). -/

namespace Sys2Proof.Machine

/-- NOT: the complement of A (R85). -/
def execNot (s : State) : Result := .next (s.resultToA (~~~s.a))

/-- AND of A with A (R86). -/
def execAnd (s : State) : Result := .next (s.resultToA (s.a &&& s.a))

/-- OR of A with A (R87). -/
def execOr (s : State) : Result := .next (s.resultToA (s.a ||| s.a))

/-- XOR of A with A (R88). -/
def execXor (s : State) : Result := .next (s.resultToA (s.a ^^^ s.a))

end Sys2Proof.Machine
end

