-- ==== Sys2Proof/Machine/Stack.lean ====
section
/-! DEFINITION. The five pushes and the five pulls (`45_stack.md`). -/

namespace Sys2Proof.Machine

/-- PUSH_STATUS (R106). -/
def execPushStatus (s : State) : Result := .next (s.pushValue s.flags.compose)

/-- PUSH_A (R107). -/
def execPushA (s : State) : Result := .next (s.pushValue s.a)

/-- PUSH_X (R108). -/
def execPushX (s : State) : Result := .next (s.pushValue s.x)

/-- PUSH_Y (R109). -/
def execPushY (s : State) : Result := .next (s.pushValue s.y)

/-- PUSH_Z (R110). -/
def execPushZ (s : State) : Result := .next (s.pushValue s.z)

/-- PULL_STATUS: all eight flags from the pulled byte, HALT included; IP still advances (R112, D21, log entry 12). -/
def execPullStatus (s : State) : Result := 
  .next ((s.dropTop.writeStatus s.dropTop.stackCell).advance 1)

/-- PULL_A (R113). -/
def execPullA (s : State) : Result := .next (s.pullReg .a)

/-- PULL_X (R114). -/
def execPullX (s : State) : Result := .next (s.pullReg .x)

/-- PULL_Y (R115). -/
def execPullY (s : State) : Result := .next (s.pullReg .y)

/-- PULL_Z (R116). -/
def execPullZ (s : State) : Result := .next (s.pullReg .z)

end Sys2Proof.Machine
end

