-- ==== Sys2Proof/Machine/Unbound.lean ====
section
/-! DEFINITION. SHL and SHR: named opcodes without a handler (`30_encoding.md` R66, R67). Neither shifts anything. -/

namespace Sys2Proof.Machine

/-- SHL, opcode 40: the unknown-opcode fail-stop (R66). -/
def execShl (s : State) : Result := .next (s.unknownOpcode 40)

/-- SHR, opcode 41: the unknown-opcode fail-stop (R67). -/
def execShr (s : State) : Result := .next (s.unknownOpcode 41)

end Sys2Proof.Machine
end

