-- ==== Sys2Proof/Machine/Dispatch.lean ====
section
/-! DEFINITION. One arm per instruction: the meaning of each. -/

namespace Sys2Proof.Machine

/-- The meaning of each instruction, at any state (the rules are stated for arbitrary start states,
`70_reset_and_hazards.md` R171); the test of F.HALT before the fetch is `step`'s. -/
def exec (i : Instr) (s : State) : Host.Outcome State Fault Refusal :=
  match i with
  | .halt => Sys2Proof.Machine.execHalt s
  | .nop => Sys2Proof.Machine.execNop s
  | .brk => Sys2Proof.Machine.execBrk s
  | .not => Sys2Proof.Machine.execNot s
  | .and => Sys2Proof.Machine.execAnd s
  | .or => Sys2Proof.Machine.execOr s
  | .xor => Sys2Proof.Machine.execXor s
  | .add => Sys2Proof.Machine.execAdd s
  | .sub => Sys2Proof.Machine.execSub s
  | .mul => Sys2Proof.Machine.execMul s
  | .div => Sys2Proof.Machine.execDiv s
  | .inc => Sys2Proof.Machine.execInc s
  | .dec => Sys2Proof.Machine.execDec s
  | .shl => Sys2Proof.Machine.execShl s
  | .shr => Sys2Proof.Machine.execShr s
  | .setAVal imm8 => Sys2Proof.Machine.execSetAVal imm8 s
  | .setXVal imm8 => Sys2Proof.Machine.execSetXVal imm8 s
  | .setYVal imm8 => Sys2Proof.Machine.execSetYVal imm8 s
  | .setZVal imm8 => Sys2Proof.Machine.execSetZVal imm8 s
  | .pushStatus => Sys2Proof.Machine.execPushStatus s
  | .pushA => Sys2Proof.Machine.execPushA s
  | .pushX => Sys2Proof.Machine.execPushX s
  | .pushY => Sys2Proof.Machine.execPushY s
  | .pushZ => Sys2Proof.Machine.execPushZ s
  | .pullStatus => Sys2Proof.Machine.execPullStatus s
  | .pullA => Sys2Proof.Machine.execPullA s
  | .pullX => Sys2Proof.Machine.execPullX s
  | .pullY => Sys2Proof.Machine.execPullY s
  | .pullZ => Sys2Proof.Machine.execPullZ s
  | .clearStatus => Sys2Proof.Machine.execClearStatus s
  | .clearCarry => Sys2Proof.Machine.execClearCarry s
  | .clearDecimal => Sys2Proof.Machine.execClearDecimal s
  | .clearInterrupt => Sys2Proof.Machine.execClearInterrupt s
  | .clearOverflow => Sys2Proof.Machine.execClearOverflow s
  | .setStatus => Sys2Proof.Machine.execSetStatus s
  | .setCarry => Sys2Proof.Machine.execSetCarry s
  | .setDecimal => Sys2Proof.Machine.execSetDecimal s
  | .setInterrupt => Sys2Proof.Machine.execSetInterrupt s
  | .setOverflow => Sys2Proof.Machine.execSetOverflow s
  | .isEq => Sys2Proof.Machine.execIsEq s
  | .isGr => Sys2Proof.Machine.execIsGr s
  | .isGre => Sys2Proof.Machine.execIsGre s
  | .isLs => Sys2Proof.Machine.execIsLs s
  | .isLse => Sys2Proof.Machine.execIsLse s
  | .jump => Sys2Proof.Machine.execJump s
  | .jumpTrue => Sys2Proof.Machine.execJumpTrue s
  | .jumpFalse => Sys2Proof.Machine.execJumpFalse s

end Sys2Proof.Machine
end

