-- ==== Sys2Proof/Machine/Step.lean ====
section
/-! DEFINITION. One iteration of the fetch-decode-execute loop. -/

namespace Sys2Proof.Machine

/-- One iteration of `Execute`'s loop: the test of F.HALT, the fetch, the lookup, then the handler or the fail-stop,
in that order (`70_reset_and_hazards.md` R162, R163, `60_exceptions.md` R147). The loop itself does nothing to IP. -/
def step (s : State) : Host.Outcome State Fault Refusal :=
  if s.flags.halt then s.noStep
  else
    match decodeBytes s.fetchOpcode s.fetchOperand with
    | some i => exec i s
    | none => .next (s.unknownOpcode s.fetchOpcode)

/-- `s` with an instruction word, numbered as spec/opcode_table.json numbers it, stored at IP and at the address after
it, and with F.HALT clear so that the fetch takes place. It is no operation of the machine: it stands for a load by
the host (log entry 16). -/
def State.withFetchWord (s : State) (nbits w : Nat) : State :=
  { s with
    mem := (s.mem.write s.ip (tableByte nbits w 0)).write (s.ip + 1) (tableByte nbits w 1)
    flags := s.flags.setHalt false }

end Sys2Proof.Machine
end

