-- ==== Sys2Proof/WellFormed.lean ====
section
/-! DEFINITION. What is checked of a term before it counts as a program's: an instruction names a bound handler, an
image fits the memory. A byte-wide immediate needs no check: its type bounds it. -/

namespace Sys2Proof

/-- Does the dispatch table bind a handler to the instruction's opcode (the `bound` column of `30_encoding.md` R64)?
Only SHL and SHR have a name and no handler (R66, R67). -/
def Instr.wellFormed : Instr → Bool
  | .halt => true
  | .nop => true
  | .brk => true
  | .not => true
  | .and => true
  | .or => true
  | .xor => true
  | .add => true
  | .sub => true
  | .mul => true
  | .div => true
  | .inc => true
  | .dec => true
  | .shl => false
  | .shr => false
  | .setAVal _ => true
  | .setXVal _ => true
  | .setYVal _ => true
  | .setZVal _ => true
  | .pushStatus => true
  | .pushA => true
  | .pushX => true
  | .pushY => true
  | .pushZ => true
  | .pullStatus => true
  | .pullA => true
  | .pullX => true
  | .pullY => true
  | .pullZ => true
  | .clearStatus => true
  | .clearCarry => true
  | .clearDecimal => true
  | .clearInterrupt => true
  | .clearOverflow => true
  | .setStatus => true
  | .setCarry => true
  | .setDecimal => true
  | .setInterrupt => true
  | .setOverflow => true
  | .isEq => true
  | .isGr => true
  | .isGre => true
  | .isLs => true
  | .isLse => true
  | .jump => true
  | .jumpTrue => true
  | .jumpFalse => true

/-- Does the dispatch table hold a handler for an opcode byte (`30_encoding.md` R64, R65)? -/
def handlerBound (op : Byte) : Bool :=
  match decodeBytes op 0 with
  | some i => i.wellFormed
  | none => false

/-- Does a program image fit the memory? "A program is exactly 256 bytes", a shorter one is padded with zeros
(`30_encoding.md` R72, `20_memory.md` R54). -/
def imageWellFormed (image : List Byte) : Bool := decide (image.length ≤ Config.arraySize)

end Sys2Proof
end

