-- ==== Sys2Proof/Machine/HostInterface.lean ====
section
/-! DEFINITION. What the host can do to the machine between runs and read from it, and `Execute` itself
(`70_reset_and_hazards.md` R171). -/

namespace Sys2Proof.Machine

/-- A loop that writes 0 to the first `n` cells of an array. -/
def Memory.zeroFirst : Nat → Memory → Memory
  | 0, m => m
  | n + 1, m => (Memory.zeroFirst n m).write (BitVec.ofNat 8 n) 0

/-- The operation `Reset()`, as its pseudocode has it: it zeroes every cell of both arrays, every register and pointer
and every flag, and clears the fault record (`70_reset_and_hazards.md` R160). -/
def State.resetOp (s : State) : State :=
  { a := 0, x := 0, y := 0, z := 0, ip := 0, sp := 0
    flags := Flags.decompose 0
    mem := Memory.zeroFirst Config.arraySize s.mem
    stack := Memory.zeroFirst Config.arraySize s.stack
    fault := .none }

/-- The bytes of an image written to consecutive addresses from `addr` on. -/
def Memory.load : Memory → Byte → List Byte → Memory
  | m, _, [] => m
  | m, addr, b :: rest => Memory.load (m.write addr b) (addr + 1) rest

/-- The host's program load: the image from address 0 on, at most 256 bytes; cells past a shorter image keep what they
held (`20_memory.md` R54, `30_encoding.md` R72). -/
def State.loadImage (image : List Byte) (s : State) : State :=
  { s with mem := s.mem.load 0 (image.take Config.arraySize) }

/-- The boot sequence up to the call of `Execute`: Reset, then the load (`70_reset_and_hazards.md` R165). -/
def State.boot (image : List Byte) (s : State) : State := s.resetOp.loadImage image

/-- `Execute()` with at most `fuel` iterations of its loop: `some t` when it returns, in state `t`; `none` when it has
not returned yet (`70_reset_and_hazards.md` R162 to R164). A run need not end (R169). The fuel is the model's (log entry 19). -/
def execute : Nat → State → Option State
  | 0, s => if s.flags.halt then some s else none
  | fuel + 1, s =>
    if s.flags.halt then some s
    else
      match step s with
      | .next t => execute fuel t
      | .fault _ => none
      | .refused _ => none

/-- The seven values the host reads back (`20_memory.md` R55). -/
structure Observation where
  a : Byte
  x : Byte
  y : Byte
  z : Byte
  ip : Byte
  sp : Byte
  status : Byte
  deriving DecidableEq, Repr

/-- What the host reads from a machine that is not executing; reading changes nothing (`70_reset_and_hazards.md`
R171). -/
def State.observe (s : State) : Observation :=
  { a := s.a, x := s.x, y := s.y, z := s.z, ip := s.ip, sp := s.sp, status := s.flags.compose }

/-- The fault outputs of the informative port list, valid from the fail-stop until reset (`70_reset_and_hazards.md`
R172, D14, log entry 18): `none` while nothing is recorded. -/
structure FaultPorts where
  kind : BitVec 2
  opcode : Option Byte
  ip : Option Byte
  deriving DecidableEq, Repr

/-- The fault outputs of a state; the opcode of a division by zero is necessarily 23 (`60_exceptions.md` R140). -/
def State.faultPorts (s : State) : FaultPorts :=
  match s.fault with
  | .none => { kind := 0, opcode := none, ip := none }
  | .unknownOpcode op ip => { kind := 1, opcode := some op, ip := some ip }
  | .divideByZero ip => { kind := 2, opcode := some 23, ip := some ip }

end Sys2Proof.Machine
end

