-- ==== Sys2Proof/Safety.lean ====
section
/-! DEFINITION. What the claims speak of: a run that went wrong, the invariant of the machine, and the spec's
"(e) mod 256". -/

namespace Sys2Proof.Machine

/-- The spec's `(e) mod 256` of a non-negative `e` (`00_scope.md` R8), as a byte. -/
def mod256 (e : Nat) : Byte := BitVec.ofNat 8 (e % 256)

/-- A run over: F.HALT is 1 (`70_reset_and_hazards.md` R168). -/
abbrev State.halted (s : State) : Prop := s.flags.halt = true

/-- A state in which the loop would fetch: F.HALT is 0. -/
abbrev State.running (s : State) : Prop := s.flags.halt = false

/-- A fail-stop happened: what a safety claim counts as gone wrong (`70_reset_and_hazards.md` R168). -/
abbrev State.goneWrong (s : State) : Prop := s.fault ≠ .none

/-- No run from `s` that returns has gone wrong. It says nothing of a run that never ends (`70_reset_and_hazards.md`
R168, R169). -/
def runsSafely (s : State) : Prop := ∀ fuel t, execute fuel s = some t → ¬ t.goneWrong

/-- A fault record agrees with the architectural state as the table of `60_exceptions.md` R150 has it: the machine is
halted, IP is the recorded one and addresses the opcode that stopped it. -/
def State.recordAgrees (s : State) : Prop :=
  match s.fault with
  | .none => True
  | .unknownOpcode op ip => s.halted ∧ ip = s.ip ∧ s.mem.read s.ip = op ∧ handlerBound op = false
  | .divideByZero ip => s.halted ∧ ip = s.ip ∧ s.mem.read s.ip = 23 ∧ s.z = 0

/-- The invariant of the machine: both arrays in canonical form (the model's, log entry 17), and a fault record that
agrees with the architectural state. No invariant ties the architectural state itself (`10_state.md` R33). -/
structure State.Inv (s : State) : Prop where
  memWf : s.mem.wf
  stackWf : s.stack.wf
  record : s.recordAgrees

end Sys2Proof.Machine
end

