-- ==== Sys2Proof/Certificates/Slice0/Obligations.lean ====
section
/-! DEFINITION. What is claimed of the machine. Each statement is a Prop; none is proved here. A statement whose docstring
names a decision D<n> rests on the spec's own choice of `92_eei_decisions.md`, not on a rule of its source. -/

open Sys2Proof Sys2Proof.Machine

/-- After reset every register, pointer, flag and cell is zero. `10_state.md` R32. The fault record clause is the
spec's decision D9, log entry 9. -/
def Obligations.ResetStateIsAllZero : Prop :=
  State.reset.a = 0 ∧ State.reset.x = 0 ∧ State.reset.y = 0 ∧ State.reset.z = 0 ∧
  State.reset.ip = 0 ∧ State.reset.sp = 0 ∧ State.reset.flags.compose = 0 ∧
  (∀ addr, State.reset.mem.read addr = 0) ∧ (∀ i, State.reset.stack.read i = 0) ∧
  State.reset.fault = .none

/-- The operation Reset, as its loops are written, gives the reset state from every state in canonical form.
`70_reset_and_hazards.md` R160. That the fault record is cleared is D9, log entry 9. -/
def Obligations.ResetOperationGivesTheResetState : Prop :=
  ∀ s : State, s.mem.wf → s.stack.wf → s.resetOp = State.reset

/-- The reset state meets the invariant. The invariant is the model's (log entries 9 and 17); what it says of the
fault record is the table of `60_exceptions.md` R150. -/
def Obligations.ResetMeetsTheInvariant : Prop :=
  State.reset.Inv

/-- Every step keeps the invariant: canonical arrays and a fault record that agrees with IP and memory.
`60_exceptions.md` R144, R150. The fault record is the spec's decision D9, log entry 9; the canonical arrays are the
model's choice, log entry 17. -/
def Obligations.StepKeepsTheInvariant : Prop :=
  ∀ s t : State, s.Inv → step s = .next t → t.Inv

/-- Decoding an encoded instruction gives it back, whatever bytes follow. The length of SHL and SHR in a listing is
the model's choice, log entry 13. -/
def Obligations.DecodeOfEncodeIsTheInstruction : Prop :=
  ∀ (i : Instr) (rest : List Byte), decode (encode i ++ rest) = .ok (i, rest)

/-- Every byte string that decodes is the encoding of what it decodes to. `30_encoding.md` R60, R61, R64. The length
of SHL and SHR in a listing is the model's choice, log entry 13. -/
def Obligations.EncodeOfDecodeIsTheBytes : Prop :=
  ∀ (bytes rest : List Byte) (i : Instr), decode bytes = .ok (i, rest) → encode i ++ rest = bytes

/-- The 47 rows of the opcode map: each opcode value decodes to its instruction, of its format, bound or not.
`30_encoding.md` R60, R64. That 40 and 41 decode to instructions SHL and SHR, where the spec's decoder answers
"unbound" (R61, R73), is the model's choice, log entry 13. -/
def Obligations.NamedOpcodesDecodeAsTheMapSays : Prop :=
  ∀ (imm8 : Byte),
    ∀ row ∈ (
        [(0, Instr.halt, some 1), (1, Instr.nop, some 1), (2, Instr.brk, some 1), (10, Instr.not, some 1),
         (11, Instr.and, some 1), (12, Instr.or, some 1), (13, Instr.xor, some 1), (20, Instr.add, some 1),
         (21, Instr.sub, some 1), (22, Instr.mul, some 1), (23, Instr.div, some 1), (30, Instr.inc, some 1),
         (31, Instr.dec, some 1), (40, Instr.shl, none), (41, Instr.shr, none)] ++
        [(50, Instr.setAVal imm8, some 2), (51, Instr.setXVal imm8, some 2), (52, Instr.setYVal imm8, some 2),
         (53, Instr.setZVal imm8, some 2), (60, Instr.pushStatus, some 1), (61, Instr.pushA, some 1),
         (62, Instr.pushX, some 1), (63, Instr.pushY, some 1), (64, Instr.pushZ, some 1),
         (65, Instr.pullStatus, some 1), (66, Instr.pullA, some 1), (67, Instr.pullX, some 1),
         (68, Instr.pullY, some 1), (69, Instr.pullZ, some 1), (70, Instr.clearStatus, some 1),
         (71, Instr.clearCarry, some 1)] ++
        [(72, Instr.clearDecimal, some 1), (73, Instr.clearInterrupt, some 1), (74, Instr.clearOverflow, some 1),
         (75, Instr.setStatus, some 1), (76, Instr.setCarry, some 1), (77, Instr.setDecimal, some 1),
         (78, Instr.setInterrupt, some 1), (79, Instr.setOverflow, some 1), (80, Instr.isEq, some 1),
         (81, Instr.isGr, some 1), (82, Instr.isGre, some 1), (83, Instr.isLs, some 1), (84, Instr.isLse, some 1),
         (90, Instr.jump, some 1), (91, Instr.jumpTrue, some 1), (92, Instr.jumpFalse, some 1)] :
        List (Byte × Instr × Option Nat)),
      decodeBytes row.1 imm8 = some row.2.1 ∧ row.2.1.wellFormed = row.2.2.isSome ∧
        ∀ n, row.2.2 = some n → (encode row.2.1).length = n

/-- An opcode value has no handler exactly when it is one of the 211 listed values. Rests on 30_encoding.md R65,
30_encoding.md R73, 93_implementation_defined.md U8. -/
def Obligations.ExactlyTheListedValuesAreUnbound : Prop :=
  ∀ op : Byte, handlerBound op = false ↔
    (3 ≤ op.toNat ∧ op.toNat ≤ 9) ∨ (14 ≤ op.toNat ∧ op.toNat ≤ 19) ∨ (24 ≤ op.toNat ∧ op.toNat ≤ 29) ∨
    (32 ≤ op.toNat ∧ op.toNat ≤ 49) ∨ (54 ≤ op.toNat ∧ op.toNat ≤ 59) ∨ (85 ≤ op.toNat ∧ op.toNat ≤ 89) ∨
    93 ≤ op.toNat

/-- A load-immediate takes the byte at (IP + 1) mod 256 as it stands. Rule R62. -/
def Obligations.ImmediateIsTheByteAfterTheOpcode : Prop :=
  ∀ s : State, s.running →
    (s.mem.read s.ip = 50 → ∃ t, step s = .next t ∧ t.a = s.mem.read (mod256 (s.ip.toNat + 1))) ∧
    (s.mem.read s.ip = 51 → ∃ t, step s = .next t ∧ t.x = s.mem.read (mod256 (s.ip.toNat + 1))) ∧
    (s.mem.read s.ip = 52 → ∃ t, step s = .next t ∧ t.y = s.mem.read (mod256 (s.ip.toNat + 1))) ∧
    (s.mem.read s.ip = 53 → ∃ t, step s = .next t ∧ t.z = s.mem.read (mod256 (s.ip.toNat + 1)))

/-- A step of a running machine is the meaning of the instruction at IP, and nothing is added around it.
`70_reset_and_hazards.md` R162, R163; `30_encoding.md` R73. That the bytes 40 and 41 decode to instructions of their
own is the model's choice, log entry 13. -/
def Obligations.StepRunsTheDecodedInstruction : Prop :=
  ∀ (s : State) (i : Instr) (rest : List Byte), s.running →
    decode [s.mem.read s.ip, s.mem.read (mod256 (s.ip.toNat + 1))] = .ok (i, rest) →
    step s = exec i s

/-- Fetching any unbound opcode sets HALT and the fault record, keeps IP, and changes nothing else. Decisions D8 and
D9 of the spec, log entries 8 and 9. -/
def Obligations.UnboundOpcodeTakesTheFailStop : Prop :=
  ∀ s : State, s.running → handlerBound (s.mem.read s.ip) = false →
    step s = .next { s with
      flags := { s.flags with halt := true }
      fault := .unknownOpcode (s.mem.read s.ip) s.ip }

/-- Execute tests HALT before every fetch, runs the handler of mem[IP], and fail-stops where there is none. Rule R162.
-/
def Obligations.ExecuteIsTheFetchDecodeLoop : Prop :=
  ∀ (s : State) (n : Nat),
    (s.halted → execute n s = some s) ∧
    (s.running → handlerBound (s.mem.read s.ip) = false →
      execute (n + 1) s = execute n (s.unknownOpcode (s.mem.read s.ip))) ∧
    (s.running → ∀ i t, decodeBytes (s.mem.read s.ip) (s.mem.read (mod256 (s.ip.toNat + 1))) = some i →
      exec i s = .next t → execute (n + 1) s = execute n t)

/-- With HALT set there is no step, and Execute returns at once with the state unchanged. The name of the stop is the
model's, log entry 14. -/
def Obligations.AHaltedMachineTakesNoStep : Prop :=
  ∀ s : State, s.halted → step s = .fault .halted ∧ ∀ n, execute n s = some s

/-- The step function is total on states with HALT clear. Rests on 70_reset_and_hazards.md R163, 10_state.md R33,
30_encoding.md R68, 60_exceptions.md R145. -/
def Obligations.EveryRunningStateHasAStep : Prop :=
  ∀ s : State, s.running → ∃ t, step s = .next t

/-- HALT sets F.HALT, keeps IP and every other flag, makes no diagnostic, and Execute then returns. Rule R80. -/
def Obligations.HaltSetsTheHaltFlagAndKeepsIp : Prop :=
  ∀ s : State, ∃ t, exec .halt s = .next t ∧ t.flags = { s.flags with halt := true } ∧ t.ip = s.ip ∧
    t.fault = s.fault ∧ (s.mem.read s.ip = 0 → t.mem.read t.ip = 0) ∧ ∀ n, execute n t = some t

/-- NOP advances IP by one modulo 256 and changes nothing else; a memory of NOPs never halts. Rule R81. -/
def Obligations.NopOnlyAdvances : Prop :=
  ∀ s : State, exec .nop s = .next { s with ip := mod256 (s.ip.toNat + 1) } ∧
    (s.running → (∀ addr, s.mem.read addr = 1) → ∀ n, execute n s = none)

/-- BREAK answers the very same state, IP included (the spec's own decision D2). Decision D2 of the spec, log entry 2.
-/
def Obligations.BreakChangesNothing : Prop :=
  ∀ s : State, exec .brk s = .next s

/-- From a running state at a BREAK, Execute never returns (decision D2). Decision D2 of the spec, log entry 2. -/
def Obligations.AReachedBreakIsNeverLeft : Prop :=
  ∀ s : State, s.running → s.mem.read s.ip = 2 → ∀ n, execute n s = none

/-- NOT gives 255 - A; AND and OR leave A; XOR gives 0; each sets ZERO from A and advances IP. Decisions D1 and D8 of
the spec, log entries 3 and 8. -/
def Obligations.LogicCombinesAWithItself : Prop :=
  ∀ s : State,
    exec .not s = .next { s with
      a := mod256 (255 - s.a.toNat)
      flags := { s.flags with zero := decide (s.a.toNat = 255) }
      ip := mod256 (s.ip.toNat + 1) } ∧
    (∀ i ∈ [Instr.and, Instr.or], exec i s = .next { s with
      flags := { s.flags with zero := decide (s.a.toNat = 0) }
      ip := mod256 (s.ip.toNat + 1) }) ∧
    exec .xor s = .next { s with
      a := 0
      flags := { s.flags with zero := true }
      ip := mod256 (s.ip.toNat + 1) }

/-- ADD, SUB, MUL: A becomes A op Z modulo 256, ZERO is set from it, and no other flag records anything. Decisions D1
and D8 of the spec, log entries 3 and 8. -/
def Obligations.AddSubMulWrapModulo256 : Prop :=
  ∀ s : State,
    exec .add s = .next { s with
      a := mod256 (s.a.toNat + s.z.toNat)
      flags := { s.flags with zero := decide ((s.a.toNat + s.z.toNat) % 256 = 0) }
      ip := mod256 (s.ip.toNat + 1) } ∧
    exec .sub s = .next { s with
      a := if s.z.toNat ≤ s.a.toNat then mod256 (s.a.toNat - s.z.toNat) else mod256 (s.a.toNat + 256 - s.z.toNat)
      flags := { s.flags with zero := decide (s.a = s.z) }
      ip := mod256 (s.ip.toNat + 1) } ∧
    exec .mul s = .next { s with
      a := mod256 (s.a.toNat * s.z.toNat)
      flags := { s.flags with zero := decide (s.a.toNat * s.z.toNat % 256 = 0) }
      ip := mod256 (s.ip.toNat + 1) }

/-- DIV with Z not 0: A becomes the quotient, Z the remainder, ZERO is set from the quotient. Decisions D1, D6 and D8
of the spec, log entries 3, 6 and 8. -/
def Obligations.DivGivesQuotientAndRemainder : Prop :=
  ∀ (s : State) (q r : Nat), s.a.toNat = q * s.z.toNat + r → r < s.z.toNat →
    exec .div s = .next { s with
      a := mod256 q
      z := mod256 r
      flags := { s.flags with zero := decide (q = 0) }
      ip := mod256 (s.ip.toNat + 1) }

/-- DIV with Z = 0 sets HALT and the fault record, keeps IP, A, Z and ZERO (decision D5). Decisions D5 and D9 of the
spec, log entries 5 and 9. -/
def Obligations.DivByZeroFailStops : Prop :=
  ∀ s : State, s.z = 0 →
    exec .div s = .next { s with flags := { s.flags with halt := true }, fault := .divideByZero s.ip }

/-- INC and DEC: A plus or minus one modulo 256, ZERO from it, IP + 1. Decisions D1 and D8 of the spec, log entries 3
and 8. -/
def Obligations.IncAndDecWrapModulo256 : Prop :=
  ∀ s : State,
    exec .inc s = .next { s with
      a := mod256 (s.a.toNat + 1)
      flags := { s.flags with zero := decide (s.a.toNat = 255) }
      ip := mod256 (s.ip.toNat + 1) } ∧
    exec .dec s = .next { s with
      a := mod256 (s.a.toNat + 255)
      flags := { s.flags with zero := decide (s.a.toNat = 1) }
      ip := mod256 (s.ip.toNat + 1) }

/-- SET_A_VAL, SET_X_VAL, SET_Y_VAL, SET_Z_VAL: the register, ZERO from it, IP + 2. Decisions D1 and D8 of the spec,
log entries 3 and 8. -/
def Obligations.LoadImmediateWritesOneRegisterAndZero : Prop :=
  ∀ (s : State) (v : Byte),
    exec (.setAVal v) s = .next { s with
      a := v, flags := { s.flags with zero := decide (v = 0) }, ip := mod256 (s.ip.toNat + 2) } ∧
    exec (.setXVal v) s = .next { s with
      x := v, flags := { s.flags with zero := decide (v = 0) }, ip := mod256 (s.ip.toNat + 2) } ∧
    exec (.setYVal v) s = .next { s with
      y := v, flags := { s.flags with zero := decide (v = 0) }, ip := mod256 (s.ip.toNat + 2) } ∧
    exec (.setZVal v) s = .next { s with
      z := v, flags := { s.flags with zero := decide (v = 0) }, ip := mod256 (s.ip.toNat + 2) }

/-- A register push writes the register at the old SP, then increments SP; no flag and no register changes (decision
D8). `45_stack.md` R105, R107 to R110. That the registers not pushed are as before is decision D8 of the spec, log
entry 8. -/
def Obligations.PushWritesThenIncrements : Prop :=
  ∀ s : State, s.stack.wf →
    ∀ p ∈ [(Instr.pushA, Reg.a), (Instr.pushX, Reg.x), (Instr.pushY, Reg.y), (Instr.pushZ, Reg.z)],
      ∃ t, exec p.1 s = .next t ∧ t.stack.read s.sp = s.reg p.2 ∧
        (∀ i, i ≠ s.sp → t.stack.read i = s.stack.read i) ∧
        t.sp = mod256 (s.sp.toNat + 1) ∧ t.ip = mod256 (s.ip.toNat + 1) ∧
        (∀ r, t.reg r = s.reg r) ∧ t.flags = s.flags

/-- PUSH_STATUS pushes the composed status byte, whose bit 5 is 0 whenever the machine is running. Decision D3 of the
spec, log entry 4; that bit 5 is 0 is an inference of the spec, R22. -/
def Obligations.PushStatusPushesTheComposedByte : Prop :=
  ∀ s : State, s.stack.wf →
    ∃ t, exec .pushStatus s = .next t ∧ t.stack.read s.sp = s.flags.compose ∧
      t.sp = mod256 (s.sp.toNat + 1) ∧ t.ip = mod256 (s.ip.toNat + 1) ∧ t.flags = s.flags ∧
      (s.running → (t.stack.read s.sp).getLsbD 5 = false) ∧
      (t.stack.read s.sp).getLsbD 0 = s.flags.carry ∧ (t.stack.read s.sp).getLsbD 1 = s.flags.zero ∧
      (t.stack.read s.sp).getLsbD 2 = s.flags.trueFalse ∧
      (t.stack.read s.sp).getLsbD 3 = s.flags.interruptDisable ∧
      (t.stack.read s.sp).getLsbD 4 = s.flags.decimalMode ∧ (t.stack.read s.sp).getLsbD 6 = s.flags.overflow ∧
      (t.stack.read s.sp).getLsbD 7 = s.flags.negative

/-- A register pull decrements SP, reads the cell there into the register, and writes no flag. Decision D8 of the
spec, log entry 8. -/
def Obligations.PullDecrementsThenReads : Prop :=
  ∀ s : State,
    exec .pullA s = .next { s with
      a := s.stack.read (mod256 (s.sp.toNat + 255)), sp := mod256 (s.sp.toNat + 255), ip := mod256 (s.ip.toNat + 1) } ∧
    exec .pullX s = .next { s with
      x := s.stack.read (mod256 (s.sp.toNat + 255)), sp := mod256 (s.sp.toNat + 255), ip := mod256 (s.ip.toNat + 1) } ∧
    exec .pullY s = .next { s with
      y := s.stack.read (mod256 (s.sp.toNat + 255)), sp := mod256 (s.sp.toNat + 255), ip := mod256 (s.ip.toNat + 1) } ∧
    exec .pullZ s = .next { s with
      z := s.stack.read (mod256 (s.sp.toNat + 255)), sp := mod256 (s.sp.toNat + 255), ip := mod256 (s.ip.toNat + 1) }

/-- PULL_STATUS loads all eight flags from the pulled byte; with bit 5 set it completes and the run is over. Decisions
D3 and D21 of the spec, log entries 4 and 12. -/
def Obligations.PullStatusLoadsEveryFlag : Prop :=
  ∀ s : State, ∃ t, exec .pullStatus s = .next t ∧
    t.flags.compose = s.stack.read (mod256 (s.sp.toNat + 255)) ∧ t.sp = mod256 (s.sp.toNat + 255) ∧
    t.ip = mod256 (s.ip.toNat + 1) ∧ t.fault = s.fault ∧ (∀ r, t.reg r = s.reg r) ∧
    ((s.stack.read (mod256 (s.sp.toNat + 255))).getLsbD 5 = true → ∀ n, execute n t = some t)

/-- A push of one register and a pull into another copies it, at every SP, the wrap included. Decision D8 of the spec,
log entry 8. -/
def Obligations.PushThenPullCopiesTheRegister : Prop :=
  ∀ s : State, s.stack.wf →
    ∀ p ∈ [(Instr.pushA, Reg.a), (Instr.pushX, Reg.x), (Instr.pushY, Reg.y), (Instr.pushZ, Reg.z)],
    ∀ q ∈ [(Instr.pullA, Reg.a), (Instr.pullX, Reg.x), (Instr.pullY, Reg.y), (Instr.pullZ, Reg.z)],
      ∃ t u, exec p.1 s = .next t ∧ exec q.1 t = .next u ∧ u.reg q.2 = s.reg p.2 ∧
        u.sp = s.sp ∧ u.ip = mod256 (s.ip.toNat + 2) ∧ u.flags = s.flags

/-- PUSH_STATUS followed by PULL_STATUS restores all eight flags and SP (decision D3). Decision D3 of the spec, log
entry 4. -/
def Obligations.PushStatusThenPullStatusRestoresEveryFlag : Prop :=
  ∀ s : State, s.stack.wf →
    ∃ t u, exec .pushStatus s = .next t ∧ exec .pullStatus t = .next u ∧ u.flags = s.flags ∧ u.sp = s.sp ∧
      u.ip = mod256 (s.ip.toNat + 2) ∧ ∀ r, u.reg r = s.reg r

/-- Bit i of the composed status byte is flag i, and the byte is the OR of the shifted flags. Decision D3 of the spec,
log entry 4. -/
def Obligations.StatusByteBitsAreTheFlags : Prop :=
  ∀ f : Flags,
    f.compose.getLsbD 0 = f.carry ∧ f.compose.getLsbD 1 = f.zero ∧ f.compose.getLsbD 2 = f.trueFalse ∧
    f.compose.getLsbD 3 = f.interruptDisable ∧ f.compose.getLsbD 4 = f.decimalMode ∧
    f.compose.getLsbD 5 = f.halt ∧ f.compose.getLsbD 6 = f.overflow ∧ f.compose.getLsbD 7 = f.negative ∧
    f.compose.toNat = f.carry.toNat + 2 * f.zero.toNat + 4 * f.trueFalse.toNat + 8 * f.interruptDisable.toNat +
      16 * f.decimalMode.toNat + 32 * f.halt.toNat + 64 * f.overflow.toNat + 128 * f.negative.toNat

/-- Decompose then compose gives every byte back; compose then decompose changes no flag (decision D3). Decision D3 of
the spec, log entry 4. -/
def Obligations.StatusByteRoundTrips : Prop :=
  (∀ v : Byte, (Flags.decompose v).compose = v) ∧ ∀ f : Flags, Flags.decompose f.compose = f

/-- CLEAR_STATUS zeroes every flag; each single-flag clear zeroes its own flag and keeps the other seven. Rule R117,
R118, R119, R120, R121. -/
def Obligations.FlagClearsTouchTheirFlagOnly : Prop :=
  ∀ s : State,
    (∃ t, exec .clearStatus s = .next t ∧ t.flags.compose = 0 ∧ t.ip = mod256 (s.ip.toNat + 1)) ∧
    (∃ t, exec .clearCarry s = .next t ∧ t.flags = { s.flags with carry := false } ∧
      t.ip = mod256 (s.ip.toNat + 1)) ∧
    (∃ t, exec .clearDecimal s = .next t ∧ t.flags = { s.flags with decimalMode := false } ∧
      t.ip = mod256 (s.ip.toNat + 1)) ∧
    (∃ t, exec .clearInterrupt s = .next t ∧ t.flags = { s.flags with interruptDisable := false } ∧
      t.ip = mod256 (s.ip.toNat + 1)) ∧
    (∃ t, exec .clearOverflow s = .next t ∧ t.flags = { s.flags with overflow := false } ∧
      t.ip = mod256 (s.ip.toNat + 1))

/-- SET_STATUS makes the status byte equal to A; with bit 5 set it completes and the run is over. Decisions D3 and D21
of the spec, log entries 4 and 12. -/
def Obligations.SetStatusLoadsEveryFlagFromA : Prop :=
  ∀ s : State, ∃ t, exec .setStatus s = .next t ∧ t.flags.compose = s.a ∧ t.flags.zero = s.a.getLsbD 1 ∧
    t.a = s.a ∧ t.ip = mod256 (s.ip.toNat + 1) ∧ t.fault = s.fault ∧
    (s.a.getLsbD 5 = true → t.halted ∧ ∀ n, execute n t = some t)

/-- SET_CARRY replaces the whole status byte by the parameter, whatever the parameter is. The parameter is D4 of the
spec, log entry 1; that nothing else changes is D8, log entry 8. -/
def Obligations.SetCarryWritesTheWholeStatus : Prop :=
  ∀ s : State, ∃ t, exec .setCarry s = .next t ∧ t.flags.compose = Config.setCarryStatusValue ∧
    t = { s with flags := t.flags, ip := mod256 (s.ip.toNat + 1) } ∧
    (∃ u, exec .setCarry t = .next u ∧ u.flags = t.flags) ∧
    t.flags.halt = Config.setCarryStatusValue.getLsbD 5

/-- SET_DECIMAL, SET_INTERRUPT, SET_OVERFLOW set their own flag and keep the other seven. Rule R125, R126, R127. -/
def Obligations.FlagSetsTouchTheirFlagOnly : Prop :=
  ∀ s : State,
    (∃ t, exec .setDecimal s = .next t ∧ t.flags = { s.flags with decimalMode := true } ∧
      t.ip = mod256 (s.ip.toNat + 1)) ∧
    (∃ t, exec .setInterrupt s = .next t ∧ t.flags = { s.flags with interruptDisable := true } ∧
      t.ip = mod256 (s.ip.toNat + 1)) ∧
    (∃ t, exec .setOverflow s = .next t ∧ t.flags = { s.flags with overflow := true } ∧
      t.ip = mod256 (s.ip.toNat + 1))

/-- IS_EQ, IS_GR, IS_GRE, IS_LS, IS_LSE set TRUEFALSE to the unsigned relation of A and Z, both ways. Decisions D7 and
D8 of the spec, log entries 7 and 8. -/
def Obligations.ComparisonsAssignTrueFalse : Prop :=
  ∀ s : State,
    ∀ p ∈ [(Instr.isEq, decide (s.a.toNat = s.z.toNat)), (Instr.isGr, decide (s.a.toNat > s.z.toNat)),
        (Instr.isGre, decide (s.a.toNat ≥ s.z.toNat)), (Instr.isLs, decide (s.a.toNat < s.z.toNat)),
        (Instr.isLse, decide (s.a.toNat ≤ s.z.toNat))],
      exec p.1 s = .next { s with
        flags := { s.flags with trueFalse := p.2 }
        ip := mod256 (s.ip.toNat + 1) }

/-- JUMP sets IP to A exactly; a jump to itself runs for ever. Rule R136. -/
def Obligations.JumpGoesToA : Prop :=
  ∀ s : State,
    (∃ t, exec .jump s = .next t ∧ t.ip = s.a ∧ t.flags = s.flags ∧ ∀ r, t.reg r = s.reg r) ∧
    (s.running → s.mem.read s.ip = 90 → ∃ t, step s = .next t ∧ t.fetchOpcode = s.mem.read s.a) ∧
    (s.running → s.mem.read s.ip = 90 → s.mem.read s.a = 0 →
      ∃ t, step s = .next t ∧ exec .halt t = step t ∧ t.ip = s.a) ∧
    (s.running → s.mem.read s.ip = 90 → s.a = s.ip → ∀ n, execute n s = none)

/-- JUMP_TRUE goes to A when TRUEFALSE is 1, JUMP_FALSE when it is 0; otherwise IP advances by one. Rule R137, R138.
-/
def Obligations.ConditionalJumpsFollowTrueFalse : Prop :=
  ∀ s : State,
    (∃ t, exec .jumpTrue s = .next t ∧
      t.ip = (if s.flags.trueFalse = true then s.a else mod256 (s.ip.toNat + 1)) ∧
      t.flags = s.flags ∧ ∀ r, t.reg r = s.reg r) ∧
    (∃ t, exec .jumpFalse s = .next t ∧
      t.ip = (if s.flags.trueFalse = false then s.a else mod256 (s.ip.toNat + 1)) ∧
      t.flags = s.flags ∧ ∀ r, t.reg r = s.reg r)

/-- SHL and SHR set HALT and the record UnknownOpcode, keep IP, and shift nothing. Decisions D8 and D9 of the spec,
log entries 8 and 9. -/
def Obligations.ShlAndShrTakeTheUnknownOpcodeFailStop : Prop :=
  ∀ s : State,
    exec .shl s = .next { s with flags := { s.flags with halt := true }, fault := .unknownOpcode 40 s.ip } ∧
    exec .shr s = .next { s with flags := { s.flags with halt := true }, fault := .unknownOpcode 41 s.ip }

/-- Every instruction answers a next state in which every byte of memory reads as before (decision D8). Decision D8 of
the spec, log entry 8. -/
def Obligations.NoInstructionWritesMemory : Prop :=
  ∀ (i : Instr) (s : State), ∃ t, exec i s = .next t ∧ ∀ addr, t.mem.read addr = s.mem.read addr

/-- Only a push writes the stack, and only the cell at the old SP; a pull erases nothing (decision D8). Decision D8 of
the spec, log entry 8. -/
def Obligations.StackChangesOnlyAtThePushedCell : Prop :=
  ∀ (i : Instr) (s : State), s.stack.wf → ∃ t, exec i s = .next t ∧
    (i ∉ [.pushStatus, .pushA, .pushX, .pushY, .pushZ] → ∀ c, t.stack.read c = s.stack.read c) ∧
    (i ∈ [.pushStatus, .pushA, .pushX, .pushY, .pushZ] → ∀ c, c ≠ s.sp → t.stack.read c = s.stack.read c)

/-- SP goes up by one at a push, down by one at a pull, and is kept by every other instruction. Decision D8 of the
spec, log entry 8. -/
def Obligations.StackPointerAfterEachInstruction : Prop :=
  ∀ (i : Instr) (s : State), ∃ t, exec i s = .next t ∧
    (i ∈ [.pushStatus, .pushA, .pushX, .pushY, .pushZ] → t.sp = mod256 (s.sp.toNat + 1)) ∧
    (i ∈ [.pullStatus, .pullA, .pullX, .pullY, .pullZ] → t.sp = mod256 (s.sp.toNat + 255)) ∧
    (i ∉ [.pushStatus, .pushA, .pushX, .pushY, .pushZ, .pullStatus, .pullA, .pullX, .pullY, .pullZ] →
      t.sp = s.sp)

/-- The complete table of how each instruction leaves IP. Decisions D2 and D5 of the spec, log entries 2 and 5. -/
def Obligations.InstructionPointerAfterEachInstruction : Prop :=
  ∀ (i : Instr) (s : State), ∃ t, exec i s = .next t ∧
    (i ∈ [.halt, .brk, .shl, .shr] ∨ (i = .div ∧ s.z = 0) → t.ip = s.ip) ∧
    ((∃ v, i = .setAVal v ∨ i = .setXVal v ∨ i = .setYVal v ∨ i = .setZVal v) →
      t.ip = mod256 (s.ip.toNat + 2)) ∧
    (i = .jump ∨ (i = .jumpTrue ∧ s.flags.trueFalse = true) ∨ (i = .jumpFalse ∧ s.flags.trueFalse = false) →
      t.ip = s.a) ∧
    (i ∈ [.nop, .not, .and, .or, .xor, .add, .sub, .mul, .inc, .dec, .pushStatus, .pushA, .pushX, .pushY, .pushZ,
        .pullStatus, .pullA, .pullX, .pullY, .pullZ, .clearStatus, .clearCarry, .clearDecimal, .clearInterrupt,
        .clearOverflow, .setStatus, .setCarry, .setDecimal, .setInterrupt, .setOverflow, .isEq, .isGr, .isGre,
        .isLs, .isLse] ∨ (i = .div ∧ s.z ≠ 0) ∨ (i = .jumpTrue ∧ s.flags.trueFalse = false) ∨
        (i = .jumpFalse ∧ s.flags.trueFalse = true) →
      t.ip = mod256 (s.ip.toNat + 1))

/-- A general register changes only by an instruction that the register table lists as a writer of it. Decision D8 of
the spec, log entry 8. -/
def Obligations.RegistersChangeOnlyWhereListed : Prop :=
  ∀ (i : Instr) (s : State), ∃ t, exec i s = .next t ∧
    (t.a ≠ s.a → i ∈ [.not, .and, .or, .xor, .add, .sub, .mul, .div, .inc, .dec, .pullA] ∨ ∃ v, i = .setAVal v) ∧
    (t.x ≠ s.x → i = .pullX ∨ ∃ v, i = .setXVal v) ∧
    (t.y ≠ s.y → i = .pullY ∨ ∃ v, i = .setYVal v) ∧
    (t.z ≠ s.z → i = .div ∨ i = .pullZ ∨ ∃ v, i = .setZVal v)

/-- A flag changes only by an instruction that the flag table lists as a writer of it. Decisions D8 and D15 of the
spec, log entry 8. -/
def Obligations.FlagsChangeOnlyWhereListed : Prop :=
  ∀ (i : Instr) (s : State), ∃ t, exec i s = .next t ∧
    (t.flags.carry ≠ s.flags.carry → i ∈ [.clearCarry, .clearStatus, .setCarry, .setStatus, .pullStatus]) ∧
    (t.flags.zero ≠ s.flags.zero →
      i ∈ [.not, .and, .or, .xor, .add, .sub, .mul, .div, .inc, .dec, .clearStatus, .setCarry, .setStatus,
        .pullStatus] ∨ ∃ v, i = .setAVal v ∨ i = .setXVal v ∨ i = .setYVal v ∨ i = .setZVal v) ∧
    (t.flags.trueFalse ≠ s.flags.trueFalse →
      i ∈ [.isEq, .isGr, .isGre, .isLs, .isLse, .clearStatus, .setCarry, .setStatus, .pullStatus]) ∧
    (t.flags.interruptDisable ≠ s.flags.interruptDisable →
      i ∈ [.setInterrupt, .clearInterrupt, .clearStatus, .setCarry, .setStatus, .pullStatus]) ∧
    (t.flags.decimalMode ≠ s.flags.decimalMode →
      i ∈ [.setDecimal, .clearDecimal, .clearStatus, .setCarry, .setStatus, .pullStatus]) ∧
    (t.flags.halt ≠ s.flags.halt →
      i ∈ [.halt, .shl, .shr, .clearStatus, .setCarry, .setStatus, .pullStatus] ∨ (i = .div ∧ s.z = 0)) ∧
    (t.flags.overflow ≠ s.flags.overflow →
      i ∈ [.setOverflow, .clearOverflow, .clearStatus, .setCarry, .setStatus, .pullStatus]) ∧
    (t.flags.negative ≠ s.flags.negative → i ∈ [.clearStatus, .setCarry, .setStatus, .pullStatus])

/-- An instruction changes the fault record only as DIV with Z = 0, or as the unbound SHL and SHR; wraps never fault.
Decisions D5 and D9 of the spec, log entries 5 and 9. -/
def Obligations.OnlyTwoCausesRecordAFault : Prop :=
  ∀ (i : Instr) (s : State), ∃ t, exec i s = .next t ∧
    (t.fault = s.fault ∨ (i = .div ∧ s.z = 0 ∧ t.fault = .divideByZero s.ip) ∨
      (i = .shl ∧ t.fault = .unknownOpcode 40 s.ip) ∨ (i = .shr ∧ t.fault = .unknownOpcode 41 s.ip))

/-- No instruction but PUSH_STATUS depends on any flag but TRUEFALSE: not for a register, an array or a flag (decision
D15). Decision D15 of the spec, log entry 8. -/
def Obligations.StorageFlagsSteerNothing : Prop :=
  ∀ (i : Instr) (s : State) (f : Flags), i ≠ .pushStatus → f.trueFalse = s.flags.trueFalse →
    ∃ t u, exec i s = .next t ∧ exec i { s with flags := f } = .next u ∧
      u = { t with flags := u.flags } ∧ u.flags.trueFalse = t.flags.trueFalse ∧
      ∀ flag ∈ [Flags.carry, Flags.zero, Flags.interruptDisable, Flags.decimalMode, Flags.halt, Flags.overflow,
          Flags.negative],
        flag u.flags = flag t.flags ∨ (flag t.flags = flag s.flags ∧ flag u.flags = flag f)

/-- A register influences only the instructions that the register table lists as readers of it. Decision D8 of the
spec, log entry 8. -/
def Obligations.RegistersAreReadOnlyWhereListed : Prop :=
  ∀ (i : Instr) (s : State) (v : Byte),
    (i ∉ [.not, .and, .or, .xor, .add, .sub, .mul, .div, .inc, .dec, .pushA, .setStatus, .isEq, .isGr, .isGre, .isLs,
        .isLse, .jump, .jumpTrue, .jumpFalse] →
      ∃ t u, exec i s = .next t ∧ exec i { s with a := v } = .next u ∧ u = { t with a := u.a } ∧
        (u.a = t.a ∨ (t.a = s.a ∧ u.a = v))) ∧
    (i ≠ .pushX → ∃ t u, exec i s = .next t ∧ exec i { s with x := v } = .next u ∧ u = { t with x := u.x } ∧
        (u.x = t.x ∨ (t.x = s.x ∧ u.x = v))) ∧
    (i ≠ .pushY → ∃ t u, exec i s = .next t ∧ exec i { s with y := v } = .next u ∧ u = { t with y := u.y } ∧
        (u.y = t.y ∨ (t.y = s.y ∧ u.y = v))) ∧
    (i ∉ [.add, .sub, .mul, .div, .isEq, .isGr, .isGre, .isLs, .isLse, .pushZ] →
      ∃ t u, exec i s = .next t ∧ exec i { s with z := v } = .next u ∧ u = { t with z := u.z } ∧
        (u.z = t.z ∨ (t.z = s.z ∧ u.z = v)))

/-- The fault record influences nothing else (decision D9). Decision D9 of the spec, log entry 9. -/
def Obligations.NoInstructionReadsTheFaultRecord : Prop :=
  ∀ (i : Instr) (s : State) (r : FaultRecord),
    ∃ t u, exec i s = .next t ∧ exec i { s with fault := r } = .next u ∧ u = { t with fault := u.fault } ∧
      (u.fault = t.fault ∨ (t.fault = s.fault ∧ u.fault = r))

/-- A step that halts the machine is HALT, an unbound opcode, DIV with Z = 0, or a whole-status write that completed.
Decisions D5, D9 and D21 of the spec, log entries 5, 9 and 12. -/
def Obligations.AStepHaltsInOneOfFourWays : Prop :=
  ∀ s t : State, s.Inv → step s = .next t → t.halted →
    (s.mem.read s.ip = 0 ∧ t.ip = s.ip ∧ t.fault = .none) ∨
    (handlerBound (s.mem.read s.ip) = false ∧ t.ip = s.ip ∧ t.fault = .unknownOpcode (t.mem.read t.ip) t.ip) ∨
    (s.mem.read s.ip = 23 ∧ s.z = 0 ∧ t.z = 0 ∧ t.ip = s.ip ∧ t.fault = .divideByZero t.ip) ∨
    (s.mem.read s.ip ∈ [65, 75, 76] ∧ t.ip = mod256 (s.ip.toNat + 1) ∧ t.fault = .none)

/-- Memory is constant over any number of steps, in runs that end and in runs that never end (decision D8). Decision
D8 of the spec, log entry 8. -/
def Obligations.ExecuteNeverChangesMemory : Prop :=
  ∀ (n : Nat) (s t : State), core.run n s = .next t ∨ execute n s = some t →
    ∀ addr, t.mem.read addr = s.mem.read addr

/-- Execute returns only with HALT set, and its result is final and determined. Rests on 10_state.md R22,
70_reset_and_hazards.md R168, 70_reset_and_hazards.md R170. -/
def Obligations.ExecuteReturnsOnlyHaltedAndFinal : Prop :=
  ∀ (n k : Nat) (s t : State), execute n s = some t → t.halted ∧ execute (n + k) s = some t

/-- Whatever Execute returns from a state with the invariant has the invariant, so its fault record tells the truth.
Decision D9 of the spec, log entry 9; the canonical arrays in Inv are the model's choice, log entry 17. -/
def Obligations.RunsKeepTheInvariant : Prop :=
  ∀ (n : Nat) (s t : State), s.Inv → execute n s = some t → t.Inv ∧
    (∀ op ip, t.fault = .unknownOpcode op ip → ip = t.ip ∧ s.mem.read ip = op ∧ handlerBound op = false) ∧
    (∀ ip, t.fault = .divideByZero ip → ip = t.ip ∧ s.mem.read ip = 23 ∧ t.z = 0)

/-- After Reset and the load, memory holds the image from address 0 on and zeros after it; all else is reset. Decision
D11 of the spec, log entry 11. -/
def Obligations.ALoadedImageIsReadBack : Prop :=
  ∀ (s : State) (image : List Byte), s.mem.wf → s.stack.wf → imageWellFormed image = true →
    (∀ addr, (s.boot image).mem.read addr = image.getD addr.toNat 0) ∧
    s.boot image = { State.reset with mem := (s.boot image).mem }

/-- A program loaded before Reset is erased: Execute then halts on the first step with everything else zero. Rests on
70_reset_and_hazards.md R165, 70_reset_and_hazards.md R160, 40_basic.md R80. -/
def Obligations.ResetErasesALoadedProgram : Prop :=
  ∀ (s : State) (image : List Byte), s.mem.wf → s.stack.wf →
    execute 1 (s.loadImage image).resetOp =
      some { State.reset with flags := { State.reset.flags with halt := true } }

/-- Two arrays in canonical form that read alike at every address are equal data. The form is the model's choice, log
entry 17. -/
def Obligations.EqualReadsMeanEqualArrays : Prop :=
  ∀ m₁ m₂ : Memory, m₁.wf → m₂.wf → (∀ addr, m₁.read addr = m₂.read addr) → m₁ = m₂
end

