-- ==== Sys2Proof/Laws/Memory.lean ====
section
/-! SUPPORT. The laws of the byte arrays: the canonical form is kept, and a read after a write. -/

namespace Sys2Proof.Machine

theorem Memory.wf_nil : Memory.wf [] := by simp [Memory.wf]

theorem Memory.wf_tail {c : Host.Cell} {m : Memory} (h : Memory.wf (c :: m)) : Memory.wf m :=
  ⟨(List.pairwise_cons.1 h.1).2, fun d hd => h.2 d (List.mem_cons_of_mem _ hd)⟩

/-- A cell listed for an address has that address and a value that must be listed. -/
theorem Memory.mem_cell {k : Nat} {v : Byte} {c : Host.Cell} (h : c ∈ Memory.cell k v) :
    c = (k, v) ∧ v ≠ Memory.unlisted := by
  unfold Memory.cell at h
  split at h <;> simp_all

theorem Memory.cell_wf (addr v : Byte) : Memory.wf (Memory.cell addr.toNat v) := by
  have := addr.isLt
  unfold Memory.cell
  split <;> simp_all [Memory.wf, Config.arraySize]

/-- What a write can list: a cell of the array before, at another address or not, or the new cell. -/
theorem Memory.mem_write {m : Memory} {addr v : Byte} {c : Host.Cell} (h : c ∈ m.write addr v) :
    c ∈ m ∨ (c = (addr.toNat, v) ∧ v ≠ Memory.unlisted) := by
  induction m with
  | nil => exact .inr (Memory.mem_cell h)
  | cons d rest ih =>
    obtain ⟨k, w⟩ := d
    simp only [Memory.write] at h
    split at h
    · rcases List.mem_cons.1 h with rfl | h
      · exact .inl List.mem_cons_self
      · exact (ih h).imp_left (List.mem_cons_of_mem _)
    · split at h
      · rcases List.mem_append.1 h with h | h
        · exact .inr (Memory.mem_cell h)
        · exact .inl (List.mem_cons_of_mem _ h)
      · rcases List.mem_append.1 h with h | h
        · exact .inr (Memory.mem_cell h)
        · exact .inl h

/-- A write keeps the canonical form. -/
theorem Memory.write_wf {m : Memory} (h : m.wf) (addr v : Byte) : (m.write addr v).wf := by
  constructor
  · induction m with
    | nil => exact (Memory.cell_wf addr v).1
    | cons d rest ih =>
      obtain ⟨k, w⟩ := d
      have hd := List.pairwise_cons.1 h.1
      simp only [Memory.write]
      split
      · refine List.pairwise_cons.2 ⟨fun c hc => ?_, ih (Memory.wf_tail h)⟩
        rcases Memory.mem_write hc with hc | ⟨rfl, -⟩
        · exact hd.1 c hc
        · assumption
      · split
        · refine List.pairwise_append.2 ⟨(Memory.cell_wf addr v).1, hd.2, fun c hc d hr => ?_⟩
          obtain ⟨rfl, -⟩ := Memory.mem_cell hc
          have := hd.1 d hr
          simp_all
        · refine List.pairwise_append.2 ⟨(Memory.cell_wf addr v).1, h.1, fun c hc d hr => ?_⟩
          obtain ⟨rfl, -⟩ := Memory.mem_cell hc
          rcases List.mem_cons.1 hr with rfl | hr
          · simp only; omega
          · have := hd.1 d hr
            simp only at this ⊢; omega
  · intro c hc
    rcases Memory.mem_write hc with hc | ⟨rfl, hv⟩
    · exact h.2 c hc
    · exact ⟨addr.isLt, hv⟩

/-- An address below every listed one reads as unlisted. -/
theorem Memory.read_below {m : Memory} {addr : Byte} (h : ∀ c ∈ m, addr.toNat < c.1) :
    m.read addr = Memory.unlisted := by
  induction m with
  | nil => rfl
  | cons c rest ih =>
    have hc := h c List.mem_cons_self
    simp only [Memory.read]
    rw [if_neg (by omega)]
    exact ih fun d hd => h d (List.mem_cons_of_mem _ hd)

theorem Memory.read_cell_append (k v addr : Byte) (m : Memory) :
    Memory.read (Memory.cell k.toNat v ++ m) addr =
      if addr = k ∧ v ≠ Memory.unlisted then v else m.read addr := by
  unfold Memory.cell
  split
  · simp_all
  · simp_all [Memory.read, eq_comm, ← BitVec.toNat_inj]

/-- A read after a write to the same address gives the value written; every other address reads as before. -/
theorem Memory.read_write {m : Memory} (h : m.wf) (addr v b : Byte) :
    (m.write addr v).read b = if b = addr then v else m.read b := by
  induction m with
  | nil =>
    have := Memory.read_cell_append addr v b []
    simp only [List.append_nil] at this
    simp only [Memory.write, this, Memory.read]
    by_cases hb : b = addr <;> by_cases hv : v = Memory.unlisted <;> simp [hb, hv]
  | cons d rest ih =>
    obtain ⟨k, w⟩ := d
    have hd := List.pairwise_cons.1 h.1
    have ih := ih (Memory.wf_tail h)
    simp only [Memory.write]
    split
    · next hk =>
      simp only [Memory.read, ih]
      by_cases hb : b = addr
      · subst hb; simp [Nat.ne_of_lt hk]
      · simp [hb]
    · next hk =>
      by_cases hb : b = addr
      · subst hb
        split
        · next he =>
          rw [Memory.read_cell_append]
          by_cases hv : v = Memory.unlisted
          · simp [hv, Memory.read_below (m := rest) (addr := b) fun c hc => he ▸ hd.1 c hc]
          · simp [hv]
        · rw [Memory.read_cell_append]
          by_cases hv : v = Memory.unlisted
          · simp only [hv, ne_eq, not_true, and_false, if_false, if_true]
            refine Memory.read_below fun c hc => ?_
            rcases List.mem_cons.1 hc with rfl | hc
            · simp only; omega
            · have := hd.1 c hc
              simp only at this; omega
          · simp [hv]
      · have hne : b.toNat ≠ addr.toNat := fun e => hb (BitVec.eq_of_toNat_eq e)
        split
        · next he =>
          rw [Memory.read_cell_append]
          simp only [hb, false_and, if_false, Memory.read]
          rw [if_neg (by omega)]
        · simp [Memory.read_cell_append, hb]

theorem Memory.zeroFirst_wf {m : Memory} (h : m.wf) : ∀ n, (Memory.zeroFirst n m).wf
  | 0 => h
  | n + 1 => Memory.write_wf (Memory.zeroFirst_wf h n) _ _

theorem Memory.load_wf (image : List Byte) : ∀ {m : Memory}, m.wf → ∀ addr, (m.load addr image).wf := by
  induction image with
  | nil => exact fun h _ => h
  | cons b rest ih => exact fun h addr => ih (Memory.write_wf h addr b) _

/-- The memory of the reset state has the canonical form, and so has its stack. -/
theorem State.reset_arrays_wf : State.reset.mem.wf ∧ State.reset.stack.wf := by decide

end Sys2Proof.Machine
end

