-- ==== Sys2Proof/Laws/State.lean ====
section
/-! SUPPORT. One lemma per field of State for each update, so that no later proof unfolds a record update. -/

namespace Sys2Proof.Machine

section advance
variable (n : Nat) (s : State)

@[simp] theorem State.advance_a : (s.advance n).a = s.a := rfl
@[simp] theorem State.advance_x : (s.advance n).x = s.x := rfl
@[simp] theorem State.advance_y : (s.advance n).y = s.y := rfl
@[simp] theorem State.advance_z : (s.advance n).z = s.z := rfl
@[simp] theorem State.advance_ip : (s.advance n).ip = s.ip + BitVec.ofNat 8 n := rfl
@[simp] theorem State.advance_sp : (s.advance n).sp = s.sp := rfl
@[simp] theorem State.advance_flags : (s.advance n).flags = s.flags := rfl
@[simp] theorem State.advance_mem : (s.advance n).mem = s.mem := rfl
@[simp] theorem State.advance_stack : (s.advance n).stack = s.stack := rfl
@[simp] theorem State.advance_fault : (s.advance n).fault = s.fault := rfl

end advance

section jumpTo
variable (v : Byte) (s : State)

@[simp] theorem State.jumpTo_a : (s.jumpTo v).a = s.a := rfl
@[simp] theorem State.jumpTo_x : (s.jumpTo v).x = s.x := rfl
@[simp] theorem State.jumpTo_y : (s.jumpTo v).y = s.y := rfl
@[simp] theorem State.jumpTo_z : (s.jumpTo v).z = s.z := rfl
@[simp] theorem State.jumpTo_ip : (s.jumpTo v).ip = v := rfl
@[simp] theorem State.jumpTo_sp : (s.jumpTo v).sp = s.sp := rfl
@[simp] theorem State.jumpTo_flags : (s.jumpTo v).flags = s.flags := rfl
@[simp] theorem State.jumpTo_mem : (s.jumpTo v).mem = s.mem := rfl
@[simp] theorem State.jumpTo_stack : (s.jumpTo v).stack = s.stack := rfl
@[simp] theorem State.jumpTo_fault : (s.jumpTo v).fault = s.fault := rfl

end jumpTo

section setFlags
variable (f : Flags) (s : State)

@[simp] theorem State.setFlags_a : (s.setFlags f).a = s.a := rfl
@[simp] theorem State.setFlags_x : (s.setFlags f).x = s.x := rfl
@[simp] theorem State.setFlags_y : (s.setFlags f).y = s.y := rfl
@[simp] theorem State.setFlags_z : (s.setFlags f).z = s.z := rfl
@[simp] theorem State.setFlags_ip : (s.setFlags f).ip = s.ip := rfl
@[simp] theorem State.setFlags_sp : (s.setFlags f).sp = s.sp := rfl
@[simp] theorem State.setFlags_flags : (s.setFlags f).flags = f := rfl
@[simp] theorem State.setFlags_mem : (s.setFlags f).mem = s.mem := rfl
@[simp] theorem State.setFlags_stack : (s.setFlags f).stack = s.stack := rfl
@[simp] theorem State.setFlags_fault : (s.setFlags f).fault = s.fault := rfl

end setFlags

section writeStatus
variable (v : Byte) (s : State)

@[simp] theorem State.writeStatus_a : (s.writeStatus v).a = s.a := rfl
@[simp] theorem State.writeStatus_x : (s.writeStatus v).x = s.x := rfl
@[simp] theorem State.writeStatus_y : (s.writeStatus v).y = s.y := rfl
@[simp] theorem State.writeStatus_z : (s.writeStatus v).z = s.z := rfl
@[simp] theorem State.writeStatus_ip : (s.writeStatus v).ip = s.ip := rfl
@[simp] theorem State.writeStatus_sp : (s.writeStatus v).sp = s.sp := rfl
@[simp] theorem State.writeStatus_flags : (s.writeStatus v).flags = Flags.decompose v := rfl
@[simp] theorem State.writeStatus_mem : (s.writeStatus v).mem = s.mem := rfl
@[simp] theorem State.writeStatus_stack : (s.writeStatus v).stack = s.stack := rfl
@[simp] theorem State.writeStatus_fault : (s.writeStatus v).fault = s.fault := rfl

end writeStatus

section failStop
variable (r : FaultRecord) (s : State)

@[simp] theorem State.failStop_a : (s.failStop r).a = s.a := rfl
@[simp] theorem State.failStop_x : (s.failStop r).x = s.x := rfl
@[simp] theorem State.failStop_y : (s.failStop r).y = s.y := rfl
@[simp] theorem State.failStop_z : (s.failStop r).z = s.z := rfl
@[simp] theorem State.failStop_ip : (s.failStop r).ip = s.ip := rfl
@[simp] theorem State.failStop_sp : (s.failStop r).sp = s.sp := rfl
@[simp] theorem State.failStop_flags : (s.failStop r).flags = s.flags.setHalt true := rfl
@[simp] theorem State.failStop_mem : (s.failStop r).mem = s.mem := rfl
@[simp] theorem State.failStop_stack : (s.failStop r).stack = s.stack := rfl
@[simp] theorem State.failStop_fault : (s.failStop r).fault = r := rfl

end failStop

section push
variable (v : Byte) (s : State)

@[simp] theorem State.push_a : (s.push v).a = s.a := rfl
@[simp] theorem State.push_x : (s.push v).x = s.x := rfl
@[simp] theorem State.push_y : (s.push v).y = s.y := rfl
@[simp] theorem State.push_z : (s.push v).z = s.z := rfl
@[simp] theorem State.push_ip : (s.push v).ip = s.ip := rfl
@[simp] theorem State.push_sp : (s.push v).sp = s.sp + 1 := rfl
@[simp] theorem State.push_flags : (s.push v).flags = s.flags := rfl
@[simp] theorem State.push_mem : (s.push v).mem = s.mem := rfl
@[simp] theorem State.push_stack : (s.push v).stack = s.stack.write s.sp v := rfl
@[simp] theorem State.push_fault : (s.push v).fault = s.fault := rfl

end push

section dropTop
variable  (s : State)

@[simp] theorem State.dropTop_a : (s.dropTop).a = s.a := rfl
@[simp] theorem State.dropTop_x : (s.dropTop).x = s.x := rfl
@[simp] theorem State.dropTop_y : (s.dropTop).y = s.y := rfl
@[simp] theorem State.dropTop_z : (s.dropTop).z = s.z := rfl
@[simp] theorem State.dropTop_ip : (s.dropTop).ip = s.ip := rfl
@[simp] theorem State.dropTop_sp : (s.dropTop).sp = s.sp - 1 := rfl
@[simp] theorem State.dropTop_flags : (s.dropTop).flags = s.flags := rfl
@[simp] theorem State.dropTop_mem : (s.dropTop).mem = s.mem := rfl
@[simp] theorem State.dropTop_stack : (s.dropTop).stack = s.stack := rfl
@[simp] theorem State.dropTop_fault : (s.dropTop).fault = s.fault := rfl

end dropTop

section setReg
variable (r : Reg) (v : Byte) (s : State)

@[simp] theorem State.setReg_a : (s.setReg r v).a = if r = .a then v else s.a := by cases r <;> rfl
@[simp] theorem State.setReg_x : (s.setReg r v).x = if r = .x then v else s.x := by cases r <;> rfl
@[simp] theorem State.setReg_y : (s.setReg r v).y = if r = .y then v else s.y := by cases r <;> rfl
@[simp] theorem State.setReg_z : (s.setReg r v).z = if r = .z then v else s.z := by cases r <;> rfl
@[simp] theorem State.setReg_ip : (s.setReg r v).ip = s.ip := by cases r <;> rfl
@[simp] theorem State.setReg_sp : (s.setReg r v).sp = s.sp := by cases r <;> rfl
@[simp] theorem State.setReg_flags : (s.setReg r v).flags = s.flags := by cases r <;> rfl
@[simp] theorem State.setReg_mem : (s.setReg r v).mem = s.mem := by cases r <;> rfl
@[simp] theorem State.setReg_stack : (s.setReg r v).stack = s.stack := by cases r <;> rfl
@[simp] theorem State.setReg_fault : (s.setReg r v).fault = s.fault := by cases r <;> rfl

@[simp] theorem State.reg_setReg (q : Reg) : (s.setReg r v).reg q = if r = q then v else s.reg q := by
  cases r <;> cases q <;> rfl

end setReg

section named
variable (s : State)

@[simp] theorem State.reg_a : s.reg .a = s.a := rfl
@[simp] theorem State.reg_x : s.reg .x = s.x := rfl
@[simp] theorem State.reg_y : s.reg .y = s.y := rfl
@[simp] theorem State.reg_z : s.reg .z = s.z := rfl

theorem State.unknownOpcode_def (op : Byte) : s.unknownOpcode op = s.failStop (.unknownOpcode op s.ip) := rfl
theorem State.divideByZero_def : s.divideByZero = s.failStop (.divideByZero s.ip) := rfl

end named

section flagUpdates
variable (b : Bool) (v : Byte) (f : Flags)

@[simp] theorem Flags.setCarry_carry : (f.setCarry b).carry = b := rfl
@[simp] theorem Flags.setCarry_zero : (f.setCarry b).zero = f.zero := rfl
@[simp] theorem Flags.setCarry_trueFalse : (f.setCarry b).trueFalse = f.trueFalse := rfl
@[simp] theorem Flags.setCarry_interruptDisable : (f.setCarry b).interruptDisable = f.interruptDisable := rfl
@[simp] theorem Flags.setCarry_decimalMode : (f.setCarry b).decimalMode = f.decimalMode := rfl
@[simp] theorem Flags.setCarry_halt : (f.setCarry b).halt = f.halt := rfl
@[simp] theorem Flags.setCarry_overflow : (f.setCarry b).overflow = f.overflow := rfl
@[simp] theorem Flags.setCarry_negative : (f.setCarry b).negative = f.negative := rfl
@[simp] theorem Flags.setTrueFalse_carry : (f.setTrueFalse b).carry = f.carry := rfl
@[simp] theorem Flags.setTrueFalse_zero : (f.setTrueFalse b).zero = f.zero := rfl
@[simp] theorem Flags.setTrueFalse_trueFalse : (f.setTrueFalse b).trueFalse = b := rfl
@[simp] theorem Flags.setTrueFalse_interruptDisable : (f.setTrueFalse b).interruptDisable = f.interruptDisable := rfl
@[simp] theorem Flags.setTrueFalse_decimalMode : (f.setTrueFalse b).decimalMode = f.decimalMode := rfl
@[simp] theorem Flags.setTrueFalse_halt : (f.setTrueFalse b).halt = f.halt := rfl
@[simp] theorem Flags.setTrueFalse_overflow : (f.setTrueFalse b).overflow = f.overflow := rfl
@[simp] theorem Flags.setTrueFalse_negative : (f.setTrueFalse b).negative = f.negative := rfl
@[simp] theorem Flags.setInterruptDisable_carry : (f.setInterruptDisable b).carry = f.carry := rfl
@[simp] theorem Flags.setInterruptDisable_zero : (f.setInterruptDisable b).zero = f.zero := rfl
@[simp] theorem Flags.setInterruptDisable_trueFalse : (f.setInterruptDisable b).trueFalse = f.trueFalse := rfl
@[simp] theorem Flags.setInterruptDisable_interruptDisable : (f.setInterruptDisable b).interruptDisable = b := rfl
@[simp] theorem Flags.setInterruptDisable_decimalMode : (f.setInterruptDisable b).decimalMode = f.decimalMode := rfl
@[simp] theorem Flags.setInterruptDisable_halt : (f.setInterruptDisable b).halt = f.halt := rfl
@[simp] theorem Flags.setInterruptDisable_overflow : (f.setInterruptDisable b).overflow = f.overflow := rfl
@[simp] theorem Flags.setInterruptDisable_negative : (f.setInterruptDisable b).negative = f.negative := rfl
@[simp] theorem Flags.setDecimalMode_carry : (f.setDecimalMode b).carry = f.carry := rfl
@[simp] theorem Flags.setDecimalMode_zero : (f.setDecimalMode b).zero = f.zero := rfl
@[simp] theorem Flags.setDecimalMode_trueFalse : (f.setDecimalMode b).trueFalse = f.trueFalse := rfl
@[simp] theorem Flags.setDecimalMode_interruptDisable : (f.setDecimalMode b).interruptDisable = f.interruptDisable := rfl
@[simp] theorem Flags.setDecimalMode_decimalMode : (f.setDecimalMode b).decimalMode = b := rfl
@[simp] theorem Flags.setDecimalMode_halt : (f.setDecimalMode b).halt = f.halt := rfl
@[simp] theorem Flags.setDecimalMode_overflow : (f.setDecimalMode b).overflow = f.overflow := rfl
@[simp] theorem Flags.setDecimalMode_negative : (f.setDecimalMode b).negative = f.negative := rfl
@[simp] theorem Flags.setHalt_carry : (f.setHalt b).carry = f.carry := rfl
@[simp] theorem Flags.setHalt_zero : (f.setHalt b).zero = f.zero := rfl
@[simp] theorem Flags.setHalt_trueFalse : (f.setHalt b).trueFalse = f.trueFalse := rfl
@[simp] theorem Flags.setHalt_interruptDisable : (f.setHalt b).interruptDisable = f.interruptDisable := rfl
@[simp] theorem Flags.setHalt_decimalMode : (f.setHalt b).decimalMode = f.decimalMode := rfl
@[simp] theorem Flags.setHalt_halt : (f.setHalt b).halt = b := rfl
@[simp] theorem Flags.setHalt_overflow : (f.setHalt b).overflow = f.overflow := rfl
@[simp] theorem Flags.setHalt_negative : (f.setHalt b).negative = f.negative := rfl
@[simp] theorem Flags.setOverflow_carry : (f.setOverflow b).carry = f.carry := rfl
@[simp] theorem Flags.setOverflow_zero : (f.setOverflow b).zero = f.zero := rfl
@[simp] theorem Flags.setOverflow_trueFalse : (f.setOverflow b).trueFalse = f.trueFalse := rfl
@[simp] theorem Flags.setOverflow_interruptDisable : (f.setOverflow b).interruptDisable = f.interruptDisable := rfl
@[simp] theorem Flags.setOverflow_decimalMode : (f.setOverflow b).decimalMode = f.decimalMode := rfl
@[simp] theorem Flags.setOverflow_halt : (f.setOverflow b).halt = f.halt := rfl
@[simp] theorem Flags.setOverflow_overflow : (f.setOverflow b).overflow = b := rfl
@[simp] theorem Flags.setOverflow_negative : (f.setOverflow b).negative = f.negative := rfl
@[simp] theorem Flags.setZeroFrom_carry : (f.setZeroFrom v).carry = f.carry := rfl
@[simp] theorem Flags.setZeroFrom_zero : (f.setZeroFrom v).zero = (v == 0) := rfl
@[simp] theorem Flags.setZeroFrom_trueFalse : (f.setZeroFrom v).trueFalse = f.trueFalse := rfl
@[simp] theorem Flags.setZeroFrom_interruptDisable : (f.setZeroFrom v).interruptDisable = f.interruptDisable := rfl
@[simp] theorem Flags.setZeroFrom_decimalMode : (f.setZeroFrom v).decimalMode = f.decimalMode := rfl
@[simp] theorem Flags.setZeroFrom_halt : (f.setZeroFrom v).halt = f.halt := rfl
@[simp] theorem Flags.setZeroFrom_overflow : (f.setZeroFrom v).overflow = f.overflow := rfl
@[simp] theorem Flags.setZeroFrom_negative : (f.setZeroFrom v).negative = f.negative := rfl
@[simp] theorem Flags.decompose_carry : (Flags.decompose v).carry = v.getLsbD 0 := rfl
@[simp] theorem Flags.decompose_zero : (Flags.decompose v).zero = v.getLsbD 1 := rfl
@[simp] theorem Flags.decompose_trueFalse : (Flags.decompose v).trueFalse = v.getLsbD 2 := rfl
@[simp] theorem Flags.decompose_interruptDisable : (Flags.decompose v).interruptDisable = v.getLsbD 3 := rfl
@[simp] theorem Flags.decompose_decimalMode : (Flags.decompose v).decimalMode = v.getLsbD 4 := rfl
@[simp] theorem Flags.decompose_halt : (Flags.decompose v).halt = v.getLsbD 5 := rfl
@[simp] theorem Flags.decompose_overflow : (Flags.decompose v).overflow = v.getLsbD 6 := rfl
@[simp] theorem Flags.decompose_negative : (Flags.decompose v).negative = v.getLsbD 7 := rfl

end flagUpdates

end Sys2Proof.Machine
end

