-- ==== Sys2Proof/Laws/Exec.lean ====
section
/-! SUPPORT. What each shared operation can do, said once, and what a step can answer. -/

namespace Sys2Proof.Machine

section operations
variable (s : State) (v : Byte) (r : Reg)

theorem State.setResult_eq : s.setResult r v = (s.setReg r v).setFlags { s.flags with zero := v == 0 } := rfl

/-- A result in A: A, ZERO and IP, and nothing else. -/
theorem State.resultToA_eq :
    s.resultToA v = { s with a := v, flags := { s.flags with zero := v == 0 }, ip := s.ip + 1 } := rfl

/-- A load-immediate: the register, ZERO and IP, and nothing else. -/
theorem State.loadImmediate_eq :
    s.loadImmediate r v =
      { s.setReg r v with flags := { s.flags with zero := v == 0 }, ip := s.ip + 2 } := by
  cases r <;> rfl

/-- A push: the cell at the old SP, SP and IP, and nothing else. -/
theorem State.pushValue_eq :
    s.pushValue v = { s with stack := s.stack.write s.sp v, sp := s.sp + 1, ip := s.ip + 1 } := rfl

/-- A pull: the register from the cell below SP, SP and IP, and nothing else. -/
theorem State.pullReg_eq :
    s.pullReg r = { s.setReg r (s.stack.read (s.sp - 1)) with sp := s.sp - 1, ip := s.ip + 1 } := by
  cases r <;> rfl

/-- A comparison: TRUEFALSE and IP, and nothing else. -/
theorem State.compare_eq (holds : Bool) :
    s.compare holds = { s with flags := { s.flags with trueFalse := holds }, ip := s.ip + 1 } := rfl

/-- A conditional jump: IP, and nothing else. -/
theorem State.jumpIf_eq (taken : Bool) :
    s.jumpIf taken = { s with ip := if taken then s.a else s.ip + 1 } := by
  cases taken <;> rfl

/-- A fail-stop: F.HALT and the record, and nothing else. -/
theorem State.failStop_eq (f : FaultRecord) :
    s.failStop f = { s with flags := { s.flags with halt := true }, fault := f } := rfl

end operations

/-- DIV, by the two cases of its divisor. -/
theorem execDiv_cases (s : State) :
    (s.z = 0 ∧ execDiv s = .next s.divideByZero) ∨
      (s.z ≠ 0 ∧ execDiv s = .next ((s.setReg .z (s.a.umod s.z)).resultToA (s.a.udiv s.z))) := by
  unfold execDiv
  split
  · exact .inl ⟨‹_›, rfl⟩
  · exact .inr ⟨‹_›, rfl⟩

/-- Every meaning answers a next state, at every state. -/
theorem exec_answers_next (i : Instr) (s : State) : ∃ t, exec i s = .next t := by
  cases i
  case div => obtain ⟨-, h⟩ | ⟨-, h⟩ := execDiv_cases s <;> exact ⟨_, h⟩
  all_goals exact ⟨_, rfl⟩

/-- A halted machine has no step. -/
theorem step_of_halted {s : State} (h : s.halted) : step s = s.noStep := by
  simp [step, h]

/-- What a step that answers a next state has done: the machine was running, and it ran the decoded instruction or
took the unknown-opcode fail-stop. -/
theorem step_cases {s t : State} (h : step s = .next t) :
    s.running ∧
      ((∃ i, decodeBytes s.fetchOpcode s.fetchOperand = some i ∧ exec i s = .next t) ∨
        (decodeBytes s.fetchOpcode s.fetchOperand = none ∧ t = s.unknownOpcode s.fetchOpcode)) := by
  unfold step at h
  split at h
  · simp [State.noStep] at h
  · next hr =>
    refine ⟨by simpa using hr, ?_⟩
    split at h
    · next i hi => exact .inl ⟨i, hi, h⟩
    · next hn =>
      cases h
      exact .inr ⟨hn, rfl⟩

/-- One step more of the host's run is a step and then the run. -/
theorem core_run_succ {n : Nat} {s t : State} (h : core.run (n + 1) s = .next t) :
    ∃ u, step s = .next u ∧ core.run n u = .next t := by
  simp only [Host.Core.run] at h
  split at h
  · next u hs => exact ⟨u, hs, h⟩
  · cases h
  · cases h

/-- What holds of a state and itself, and is carried back over each step, holds from the start to the end of any number
of steps. -/
theorem core_run_induction {P : State → State → Prop} (here : ∀ s, P s s)
    (back : ∀ s t u, step s = .next t → P t u → P s u) :
    ∀ (n : Nat) (s t : State), core.run n s = .next t → P s t
  | 0, s, _, h => by cases h; exact here s
  | n + 1, s, t, h => by
    obtain ⟨u, hs, hu⟩ := core_run_succ h
    exact back s u t hs (core_run_induction here back n u t hu)

/-- The same for an Execute that returns, whose last state is halted. -/
theorem execute_induction {P : State → State → Prop} (here : ∀ s, s.halted → P s s)
    (back : ∀ s t u, step s = .next t → P t u → P s u) :
    ∀ (n : Nat) (s t : State), execute n s = some t → P s t
  | 0, s, t, h => by
    rw [execute] at h
    split at h <;> cases h
    exact here s ‹_›
  | n + 1, s, t, h => by
    rw [execute] at h
    split at h
    · cases h; exact here s ‹_›
    · split at h
      · next s' hs => exact back s s' t hs (execute_induction here back n s' t h)
      · cases h
      · cases h

/-- The decoder gives an instruction only for its own opcode byte. -/
theorem opcode_of_decodeBytes {op imm8 : Byte} {i : Instr} (h : decodeBytes op imm8 = some i) : i.opcode = op := by
  unfold decodeBytes at h
  split at h <;> first
    | (cases h
       apply BitVec.eq_of_toNat_eq
       simp_all [Instr.opcode])
    | cases h

end Sys2Proof.Machine
end

