-- ==== Sys2Proof/Laws/PerInstr.lean ====
section
/-! SUPPORT. A family of facts about every instruction as syntax, one lemma per constructor. -/

/-- The decoder reads an instruction's own first byte back as that instruction when its operand follows, and the
instruction has as many bytes as its format says. -/
def Sys2Proof.Laws.EncodingShape.Statement (i : Sys2Proof.Instr) : Prop :=
  Sys2Proof.decodeBytes i.opcode (i.operandBytes.headD 0) = some i ∧ (Sys2Proof.encode i).length = i.length

theorem Sys2Proof.Laws.EncodingShape.halt : Sys2Proof.Laws.EncodingShape.Statement .halt := ⟨rfl, rfl⟩
theorem Sys2Proof.Laws.EncodingShape.nop : Sys2Proof.Laws.EncodingShape.Statement .nop := ⟨rfl, rfl⟩
theorem Sys2Proof.Laws.EncodingShape.brk : Sys2Proof.Laws.EncodingShape.Statement .brk := ⟨rfl, rfl⟩
theorem Sys2Proof.Laws.EncodingShape.not : Sys2Proof.Laws.EncodingShape.Statement .not := ⟨rfl, rfl⟩
theorem Sys2Proof.Laws.EncodingShape.and : Sys2Proof.Laws.EncodingShape.Statement .and := ⟨rfl, rfl⟩
theorem Sys2Proof.Laws.EncodingShape.or : Sys2Proof.Laws.EncodingShape.Statement .or := ⟨rfl, rfl⟩
theorem Sys2Proof.Laws.EncodingShape.xor : Sys2Proof.Laws.EncodingShape.Statement .xor := ⟨rfl, rfl⟩
theorem Sys2Proof.Laws.EncodingShape.add : Sys2Proof.Laws.EncodingShape.Statement .add := ⟨rfl, rfl⟩
theorem Sys2Proof.Laws.EncodingShape.sub : Sys2Proof.Laws.EncodingShape.Statement .sub := ⟨rfl, rfl⟩
theorem Sys2Proof.Laws.EncodingShape.mul : Sys2Proof.Laws.EncodingShape.Statement .mul := ⟨rfl, rfl⟩
theorem Sys2Proof.Laws.EncodingShape.div : Sys2Proof.Laws.EncodingShape.Statement .div := ⟨rfl, rfl⟩
theorem Sys2Proof.Laws.EncodingShape.inc : Sys2Proof.Laws.EncodingShape.Statement .inc := ⟨rfl, rfl⟩
theorem Sys2Proof.Laws.EncodingShape.dec : Sys2Proof.Laws.EncodingShape.Statement .dec := ⟨rfl, rfl⟩
theorem Sys2Proof.Laws.EncodingShape.shl : Sys2Proof.Laws.EncodingShape.Statement .shl := ⟨rfl, rfl⟩
theorem Sys2Proof.Laws.EncodingShape.shr : Sys2Proof.Laws.EncodingShape.Statement .shr := ⟨rfl, rfl⟩
theorem Sys2Proof.Laws.EncodingShape.setAVal (imm8 : Sys2Proof.Byte) : Sys2Proof.Laws.EncodingShape.Statement (.setAVal imm8) := ⟨rfl, rfl⟩
theorem Sys2Proof.Laws.EncodingShape.setXVal (imm8 : Sys2Proof.Byte) : Sys2Proof.Laws.EncodingShape.Statement (.setXVal imm8) := ⟨rfl, rfl⟩
theorem Sys2Proof.Laws.EncodingShape.setYVal (imm8 : Sys2Proof.Byte) : Sys2Proof.Laws.EncodingShape.Statement (.setYVal imm8) := ⟨rfl, rfl⟩
theorem Sys2Proof.Laws.EncodingShape.setZVal (imm8 : Sys2Proof.Byte) : Sys2Proof.Laws.EncodingShape.Statement (.setZVal imm8) := ⟨rfl, rfl⟩
theorem Sys2Proof.Laws.EncodingShape.pushStatus : Sys2Proof.Laws.EncodingShape.Statement .pushStatus := ⟨rfl, rfl⟩
theorem Sys2Proof.Laws.EncodingShape.pushA : Sys2Proof.Laws.EncodingShape.Statement .pushA := ⟨rfl, rfl⟩
theorem Sys2Proof.Laws.EncodingShape.pushX : Sys2Proof.Laws.EncodingShape.Statement .pushX := ⟨rfl, rfl⟩
theorem Sys2Proof.Laws.EncodingShape.pushY : Sys2Proof.Laws.EncodingShape.Statement .pushY := ⟨rfl, rfl⟩
theorem Sys2Proof.Laws.EncodingShape.pushZ : Sys2Proof.Laws.EncodingShape.Statement .pushZ := ⟨rfl, rfl⟩
theorem Sys2Proof.Laws.EncodingShape.pullStatus : Sys2Proof.Laws.EncodingShape.Statement .pullStatus := ⟨rfl, rfl⟩
theorem Sys2Proof.Laws.EncodingShape.pullA : Sys2Proof.Laws.EncodingShape.Statement .pullA := ⟨rfl, rfl⟩
theorem Sys2Proof.Laws.EncodingShape.pullX : Sys2Proof.Laws.EncodingShape.Statement .pullX := ⟨rfl, rfl⟩
theorem Sys2Proof.Laws.EncodingShape.pullY : Sys2Proof.Laws.EncodingShape.Statement .pullY := ⟨rfl, rfl⟩
theorem Sys2Proof.Laws.EncodingShape.pullZ : Sys2Proof.Laws.EncodingShape.Statement .pullZ := ⟨rfl, rfl⟩
theorem Sys2Proof.Laws.EncodingShape.clearStatus : Sys2Proof.Laws.EncodingShape.Statement .clearStatus := ⟨rfl, rfl⟩
theorem Sys2Proof.Laws.EncodingShape.clearCarry : Sys2Proof.Laws.EncodingShape.Statement .clearCarry := ⟨rfl, rfl⟩
theorem Sys2Proof.Laws.EncodingShape.clearDecimal : Sys2Proof.Laws.EncodingShape.Statement .clearDecimal := ⟨rfl, rfl⟩
theorem Sys2Proof.Laws.EncodingShape.clearInterrupt : Sys2Proof.Laws.EncodingShape.Statement .clearInterrupt := ⟨rfl, rfl⟩
theorem Sys2Proof.Laws.EncodingShape.clearOverflow : Sys2Proof.Laws.EncodingShape.Statement .clearOverflow := ⟨rfl, rfl⟩
theorem Sys2Proof.Laws.EncodingShape.setStatus : Sys2Proof.Laws.EncodingShape.Statement .setStatus := ⟨rfl, rfl⟩
theorem Sys2Proof.Laws.EncodingShape.setCarry : Sys2Proof.Laws.EncodingShape.Statement .setCarry := ⟨rfl, rfl⟩
theorem Sys2Proof.Laws.EncodingShape.setDecimal : Sys2Proof.Laws.EncodingShape.Statement .setDecimal := ⟨rfl, rfl⟩
theorem Sys2Proof.Laws.EncodingShape.setInterrupt : Sys2Proof.Laws.EncodingShape.Statement .setInterrupt := ⟨rfl, rfl⟩
theorem Sys2Proof.Laws.EncodingShape.setOverflow : Sys2Proof.Laws.EncodingShape.Statement .setOverflow := ⟨rfl, rfl⟩
theorem Sys2Proof.Laws.EncodingShape.isEq : Sys2Proof.Laws.EncodingShape.Statement .isEq := ⟨rfl, rfl⟩
theorem Sys2Proof.Laws.EncodingShape.isGr : Sys2Proof.Laws.EncodingShape.Statement .isGr := ⟨rfl, rfl⟩
theorem Sys2Proof.Laws.EncodingShape.isGre : Sys2Proof.Laws.EncodingShape.Statement .isGre := ⟨rfl, rfl⟩
theorem Sys2Proof.Laws.EncodingShape.isLs : Sys2Proof.Laws.EncodingShape.Statement .isLs := ⟨rfl, rfl⟩
theorem Sys2Proof.Laws.EncodingShape.isLse : Sys2Proof.Laws.EncodingShape.Statement .isLse := ⟨rfl, rfl⟩
theorem Sys2Proof.Laws.EncodingShape.jump : Sys2Proof.Laws.EncodingShape.Statement .jump := ⟨rfl, rfl⟩
theorem Sys2Proof.Laws.EncodingShape.jumpTrue : Sys2Proof.Laws.EncodingShape.Statement .jumpTrue := ⟨rfl, rfl⟩
theorem Sys2Proof.Laws.EncodingShape.jumpFalse : Sys2Proof.Laws.EncodingShape.Statement .jumpFalse := ⟨rfl, rfl⟩
end

