-- ==== Sys2Proof/Tests/Slice0.lean ====
section
/-! SUPPORT. Tests: words written out from the spec's encodings, single-step vectors of `95_test_vectors.md` (their expected
values are the spec's), and for every statement with hypotheses a state that meets them. -/

namespace Sys2Proof.Tests

open Sys2Proof.Machine

/-- The reset machine with the given IP and status byte, some bytes at IP and some stack cells. -/
def machine (ip status : Byte) (bytes : List Byte) (stack : List (Byte × Byte)) : State :=
  { State.reset with
    ip := ip
    flags := Flags.decompose status
    mem := Memory.load [] ip bytes
    stack := stack.foldl (fun m c => m.write c.1 c.2) [] }

/-- The state one step later. -/
def after (s : State) : Option State :=
  match step s with
  | .next t => some t
  | .fault _ => none
  | .refused _ => none

section wellFormedness

/-- Each check of WellFormed refuses an ill-formed term: an instruction without a handler, an image too long. -/
theorem test_shl_is_ill_formed : Instr.wellFormed .shl = false := by decide
theorem test_shr_is_ill_formed : Instr.wellFormed .shr = false := by decide
theorem test_no_handler_is_bound_to_255 : handlerBound 255 = false := by decide
theorem test_long_image_is_ill_formed : imageWellFormed (List.replicate 257 0) = false := by
  rw [imageWellFormed, List.length_replicate]; decide
theorem test_full_image_is_well_formed : imageWellFormed (List.replicate 256 0) = true := by
  rw [imageWellFormed, List.length_replicate]; decide

end wellFormedness

section encoding
theorem test_decode_halt : decode [0b00000000, 1] = .ok (.halt, [1]) := by rfl
theorem test_decode_nop : decode [0b00000001, 1] = .ok (.nop, [1]) := by rfl
theorem test_decode_brk : decode [0b00000010, 1] = .ok (.brk, [1]) := by rfl
theorem test_decode_not : decode [0b00001010, 1] = .ok (.not, [1]) := by rfl
theorem test_decode_and : decode [0b00001011, 1] = .ok (.and, [1]) := by rfl
theorem test_decode_or : decode [0b00001100, 1] = .ok (.or, [1]) := by rfl
theorem test_decode_xor : decode [0b00001101, 1] = .ok (.xor, [1]) := by rfl
theorem test_decode_add : decode [0b00010100, 1] = .ok (.add, [1]) := by rfl
theorem test_decode_sub : decode [0b00010101, 1] = .ok (.sub, [1]) := by rfl
theorem test_decode_mul : decode [0b00010110, 1] = .ok (.mul, [1]) := by rfl
theorem test_decode_div : decode [0b00010111, 1] = .ok (.div, [1]) := by rfl
theorem test_decode_inc : decode [0b00011110, 1] = .ok (.inc, [1]) := by rfl
theorem test_decode_dec : decode [0b00011111, 1] = .ok (.dec, [1]) := by rfl
theorem test_decode_shl : decode [0b00101000, 1] = .ok (.shl, [1]) := by rfl
theorem test_decode_shr : decode [0b00101001, 1] = .ok (.shr, [1]) := by rfl
theorem test_decode_setAVal : decode [0b00110010, 0xA5, 1] = .ok (.setAVal 0xA5, [1]) := by rfl
theorem test_decode_setXVal : decode [0b00110011, 0xA5, 1] = .ok (.setXVal 0xA5, [1]) := by rfl
theorem test_decode_setYVal : decode [0b00110100, 0xA5, 1] = .ok (.setYVal 0xA5, [1]) := by rfl
theorem test_decode_setZVal : decode [0b00110101, 0xA5, 1] = .ok (.setZVal 0xA5, [1]) := by rfl
theorem test_decode_pushStatus : decode [0b00111100, 1] = .ok (.pushStatus, [1]) := by rfl
theorem test_decode_pushA : decode [0b00111101, 1] = .ok (.pushA, [1]) := by rfl
theorem test_decode_pushX : decode [0b00111110, 1] = .ok (.pushX, [1]) := by rfl
theorem test_decode_pushY : decode [0b00111111, 1] = .ok (.pushY, [1]) := by rfl
theorem test_decode_pushZ : decode [0b01000000, 1] = .ok (.pushZ, [1]) := by rfl
theorem test_decode_pullStatus : decode [0b01000001, 1] = .ok (.pullStatus, [1]) := by rfl
theorem test_decode_pullA : decode [0b01000010, 1] = .ok (.pullA, [1]) := by rfl
theorem test_decode_pullX : decode [0b01000011, 1] = .ok (.pullX, [1]) := by rfl
theorem test_decode_pullY : decode [0b01000100, 1] = .ok (.pullY, [1]) := by rfl
theorem test_decode_pullZ : decode [0b01000101, 1] = .ok (.pullZ, [1]) := by rfl
theorem test_decode_clearStatus : decode [0b01000110, 1] = .ok (.clearStatus, [1]) := by rfl
theorem test_decode_clearCarry : decode [0b01000111, 1] = .ok (.clearCarry, [1]) := by rfl
theorem test_decode_clearDecimal : decode [0b01001000, 1] = .ok (.clearDecimal, [1]) := by rfl
theorem test_decode_clearInterrupt : decode [0b01001001, 1] = .ok (.clearInterrupt, [1]) := by rfl
theorem test_decode_clearOverflow : decode [0b01001010, 1] = .ok (.clearOverflow, [1]) := by rfl
theorem test_decode_setStatus : decode [0b01001011, 1] = .ok (.setStatus, [1]) := by rfl
theorem test_decode_setCarry : decode [0b01001100, 1] = .ok (.setCarry, [1]) := by rfl
theorem test_decode_setDecimal : decode [0b01001101, 1] = .ok (.setDecimal, [1]) := by rfl
theorem test_decode_setInterrupt : decode [0b01001110, 1] = .ok (.setInterrupt, [1]) := by rfl
theorem test_decode_setOverflow : decode [0b01001111, 1] = .ok (.setOverflow, [1]) := by rfl
theorem test_decode_isEq : decode [0b01010000, 1] = .ok (.isEq, [1]) := by rfl
theorem test_decode_isGr : decode [0b01010001, 1] = .ok (.isGr, [1]) := by rfl
theorem test_decode_isGre : decode [0b01010010, 1] = .ok (.isGre, [1]) := by rfl
theorem test_decode_isLs : decode [0b01010011, 1] = .ok (.isLs, [1]) := by rfl
theorem test_decode_isLse : decode [0b01010100, 1] = .ok (.isLse, [1]) := by rfl
theorem test_decode_jump : decode [0b01011010, 1] = .ok (.jump, [1]) := by rfl
theorem test_decode_jumpTrue : decode [0b01011011, 1] = .ok (.jumpTrue, [1]) := by rfl
theorem test_decode_jumpFalse : decode [0b01011100, 1] = .ok (.jumpFalse, [1]) := by rfl
theorem test_decode_unbound : decode [0b00000011, 0] = .error (.unboundOpcode 3) := by rfl
theorem test_decode_needs_a_byte : decode [] = .error .noOpcode := by rfl
theorem test_decode_needs_the_operand : decode [0b00110010] = .error (.operandMissing 50) := by rfl
theorem test_encode_set_z_val : encode (.setZVal 0xC8) = [0b00110101, 0xC8] := by decide

/-- The table's word for SET_A_VAL 123: the opcode in bits 7..0, the immediate in bits 15..8. -/
theorem test_table_word : decodeTableWord 16 0x7B32 = some (.setAVal 123) := by decide
theorem test_table_word_without_operand_bits : decodeTableWord 8 0x7B32 = some (.setAVal 0) := by decide
theorem test_fetch_word_runs : after (State.reset.withFetchWord 8 0x1E) =
    some { State.reset.withFetchWord 8 0x1E with a := 1, ip := 1 } := by decide

end encoding

section vectors

/-- V-BAS-1. -/
theorem test_halt_bas_1 :
    (after (machine 7 0x00 [0] [])).map (fun t => (t.observe, t.fault)) =
      some (⟨0, 0, 0, 0, 7, 0, 0x20⟩, .none) := by decide

/-- V-BAS-2. -/
theorem test_halt_bas_2 :
    (after { machine 255 0xDF [0] [] with a := 9, x := 8, y := 7, z := 6, sp := 4 }).map (fun t => (t.observe, t.fault)) =
      some (⟨9, 8, 7, 6, 255, 4, 0xFF⟩, .none) := by decide

/-- V-BAS-3. -/
theorem test_nop_bas_3 :
    (after (machine 0 0x00 [1] [])).map (fun t => (t.observe, t.fault)) =
      some (⟨0, 0, 0, 0, 1, 0, 0x00⟩, .none) := by decide

/-- V-BAS-4. -/
theorem test_nop_bas_4 :
    (after (machine 255 0xDF [1] [])).map (fun t => (t.observe, t.fault)) =
      some (⟨0, 0, 0, 0, 0, 0, 0xDF⟩, .none) := by decide

/-- V-BAS-5. -/
theorem test_break_bas_5 :
    (after { machine 9 0x02 [2] [] with a := 1, sp := 3 }).map (fun t => (t.observe, t.fault)) =
      some (⟨1, 0, 0, 0, 9, 3, 0x02⟩, .none) := by decide

/-- V-LOG-1. -/
theorem test_not_log_1 :
    (after { machine 0 0x00 [10] [] with a := 255 }).map (fun t => (t.observe, t.fault)) =
      some (⟨0, 0, 0, 0, 1, 0, 0x02⟩, .none) := by decide

/-- V-LOG-9. -/
theorem test_not_log_9 :
    (after { machine 100 0x9D [10] [] with a := 170 }).map (fun t => (t.observe, t.fault)) =
      some (⟨85, 0, 0, 0, 101, 0, 0x9D⟩, .none) := by decide

/-- V-LOG-3. -/
theorem test_and_log_3 :
    (after { machine 0 0x00 [11] [] with a := 240, z := 15 }).map (fun t => (t.observe, t.fault)) =
      some (⟨240, 0, 0, 15, 1, 0, 0x00⟩, .none) := by decide

/-- V-LOG-10. -/
theorem test_and_log_10 :
    (after { machine 255 0xDF [11] [] with a := 90 }).map (fun t => (t.observe, t.fault)) =
      some (⟨90, 0, 0, 0, 0, 0, 0xDD⟩, .none) := by decide

/-- V-LOG-5. -/
theorem test_or_log_5 :
    (after { machine 0 0x00 [12] [] with a := 15, z := 240 }).map (fun t => (t.observe, t.fault)) =
      some (⟨15, 0, 0, 240, 1, 0, 0x00⟩, .none) := by decide

/-- V-LOG-6. -/
theorem test_or_log_6 :
    (after { machine 0 0x00 [12] [] with z := 255 }).map (fun t => (t.observe, t.fault)) =
      some (⟨0, 0, 0, 255, 1, 0, 0x02⟩, .none) := by decide

/-- V-LOG-7. -/
theorem test_xor_log_7 :
    (after { machine 0 0x00 [13] [] with a := 170, z := 85 }).map (fun t => (t.observe, t.fault)) =
      some (⟨0, 0, 0, 85, 1, 0, 0x02⟩, .none) := by decide

/-- V-ARI-1. -/
theorem test_add_ari_1 :
    (after { machine 0 0x00 [20] [] with a := 255, z := 2 }).map (fun t => (t.observe, t.fault)) =
      some (⟨1, 0, 0, 2, 1, 0, 0x00⟩, .none) := by decide

/-- V-ARI-2. -/
theorem test_add_ari_2 :
    (after { machine 0 0x00 [20] [] with a := 128, z := 128 }).map (fun t => (t.observe, t.fault)) =
      some (⟨0, 0, 0, 128, 1, 0, 0x02⟩, .none) := by decide

/-- V-ARI-7. -/
theorem test_sub_ari_7 :
    (after { machine 0 0x00 [21] [] with z := 1 }).map (fun t => (t.observe, t.fault)) =
      some (⟨255, 0, 0, 1, 1, 0, 0x00⟩, .none) := by decide

/-- V-ARI-9. -/
theorem test_sub_ari_9 :
    (after { machine 0 0x00 [21] [] with a := 3, z := 200 }).map (fun t => (t.observe, t.fault)) =
      some (⟨59, 0, 0, 200, 1, 0, 0x00⟩, .none) := by decide

/-- V-ARI-10. -/
theorem test_mul_ari_10 :
    (after { machine 0 0x00 [22] [] with a := 16, z := 16 }).map (fun t => (t.observe, t.fault)) =
      some (⟨0, 0, 0, 16, 1, 0, 0x02⟩, .none) := by decide

/-- V-ARI-13. -/
theorem test_mul_ari_13 :
    (after { machine 0 0x00 [22] [] with a := 12, z := 11 }).map (fun t => (t.observe, t.fault)) =
      some (⟨132, 0, 0, 11, 1, 0, 0x00⟩, .none) := by decide

/-- V-ARI-14. -/
theorem test_div_ari_14 :
    (after { machine 0 0x00 [23] [] with a := 200, z := 7 }).map (fun t => (t.observe, t.fault)) =
      some (⟨28, 0, 0, 4, 1, 0, 0x00⟩, .none) := by decide

/-- V-ARI-15. -/
theorem test_div_ari_15 :
    (after { machine 0 0x00 [23] [] with a := 5, z := 9 }).map (fun t => (t.observe, t.fault)) =
      some (⟨0, 0, 0, 5, 1, 0, 0x02⟩, .none) := by decide

/-- V-INC-1. -/
theorem test_inc_inc_1 :
    (after { machine 0 0x00 [30] [] with a := 255 }).map (fun t => (t.observe, t.fault)) =
      some (⟨0, 0, 0, 0, 1, 0, 0x02⟩, .none) := by decide

/-- V-INC-3. -/
theorem test_inc_inc_3 :
    (after { machine 0 0x00 [30] [] with a := 127 }).map (fun t => (t.observe, t.fault)) =
      some (⟨128, 0, 0, 0, 1, 0, 0x00⟩, .none) := by decide

/-- V-INC-4. -/
theorem test_dec_inc_4 :
    (after (machine 0 0x02 [31] [])).map (fun t => (t.observe, t.fault)) =
      some (⟨255, 0, 0, 0, 1, 0, 0x00⟩, .none) := by decide

/-- V-INC-6. -/
theorem test_dec_inc_6 :
    (after { machine 255 0x00 [31] [] with a := 128 }).map (fun t => (t.observe, t.fault)) =
      some (⟨127, 0, 0, 0, 0, 0, 0x00⟩, .none) := by decide

/-- V-IMM-1. -/
theorem test_set_a_val_imm_1 :
    (after (machine 0 0x00 [50, 123] [])).map (fun t => (t.observe, t.fault)) =
      some (⟨123, 0, 0, 0, 2, 0, 0x00⟩, .none) := by decide

/-- V-IMM-5. -/
theorem test_set_a_val_imm_5 :
    (after { machine 254 0x00 [50, 0] [] with a := 5 }).map (fun t => (t.observe, t.fault)) =
      some (⟨0, 0, 0, 0, 0, 0, 0x02⟩, .none) := by decide

/-- V-IMM-2. -/
theorem test_set_x_val_imm_2 :
    (after { machine 0 0x00 [51, 0] [] with a := 7, x := 9 }).map (fun t => (t.observe, t.fault)) =
      some (⟨7, 0, 0, 0, 2, 0, 0x02⟩, .none) := by decide

/-- V-IMM-6. -/
theorem test_set_x_val_imm_6 :
    (after (machine 0 0xDD [51, 5] [])).map (fun t => (t.observe, t.fault)) =
      some (⟨0, 5, 0, 0, 2, 0, 0xDD⟩, .none) := by decide

/-- V-IMM-3. -/
theorem test_set_y_val_imm_3 :
    (after (machine 0 0x02 [52, 255] [])).map (fun t => (t.observe, t.fault)) =
      some (⟨0, 0, 255, 0, 2, 0, 0x00⟩, .none) := by decide

/-- V-IMM-8. -/
theorem test_set_y_val_imm_8 :
    (after (machine 40 0x00 [52, 0] [])).map (fun t => (t.observe, t.fault)) =
      some (⟨0, 0, 0, 0, 42, 0, 0x02⟩, .none) := by decide

/-- V-IMM-4. -/
theorem test_set_z_val_imm_4 :
    (after (machine 255 0x00 [53, 53] [])).map (fun t => (t.observe, t.fault)) =
      some (⟨0, 0, 0, 53, 1, 0, 0x00⟩, .none) := by decide

/-- V-IMM-7. -/
theorem test_set_z_val_imm_7 :
    (after (machine 10 0x00 [53, 0] [])).map (fun t => (t.observe, t.fault)) =
      some (⟨0, 0, 0, 0, 12, 0, 0x02⟩, .none) := by decide

/-- V-STK-5. -/
theorem test_push_status_stk_5 :
    (after { machine 0 0xDF [60] [] with sp := 1 }).map (fun t => (t.observe, t.fault)) =
      some (⟨0, 0, 0, 0, 1, 2, 0xDF⟩, .none) := by decide

/-- V-STK-5, the cell pushed. -/
theorem test_push_status_stk_5_cell :
    (after { machine 0 0xDF [60] [] with sp := 1 }).map (fun t => t.stack.read 1) = some 223 := by decide

/-- V-STK-7. -/
theorem test_push_status_stk_7 :
    (after (machine 0 0x06 [60] [])).map (fun t => (t.observe, t.fault)) =
      some (⟨0, 0, 0, 0, 1, 1, 0x06⟩, .none) := by decide

/-- V-STK-7, the cell pushed. -/
theorem test_push_status_stk_7_cell :
    (after (machine 0 0x06 [60] [])).map (fun t => t.stack.read 0) = some 6 := by decide

/-- V-STK-1. -/
theorem test_push_a_stk_1 :
    (after { machine 0 0x00 [61] [] with a := 66 }).map (fun t => (t.observe, t.fault)) =
      some (⟨66, 0, 0, 0, 1, 1, 0x00⟩, .none) := by decide

/-- V-STK-1, the cell pushed. -/
theorem test_push_a_stk_1_cell :
    (after { machine 0 0x00 [61] [] with a := 66 }).map (fun t => t.stack.read 0) = some 66 := by decide

/-- V-STK-2. -/
theorem test_push_x_stk_2 :
    (after { machine 0 0x00 [62] [] with x := 9, sp := 255 }).map (fun t => (t.observe, t.fault)) =
      some (⟨0, 9, 0, 0, 1, 0, 0x00⟩, .none) := by decide

/-- V-STK-2, the cell pushed. -/
theorem test_push_x_stk_2_cell :
    (after { machine 0 0x00 [62] [] with x := 9, sp := 255 }).map (fun t => t.stack.read 255) = some 9 := by decide

/-- V-STK-3. -/
theorem test_push_y_stk_3 :
    (after { machine 0 0x00 [63] [(10, 1)] with y := 200, sp := 10 }).map (fun t => (t.observe, t.fault)) =
      some (⟨0, 0, 200, 0, 1, 11, 0x00⟩, .none) := by decide

/-- V-STK-3, the cell pushed. -/
theorem test_push_y_stk_3_cell :
    (after { machine 0 0x00 [63] [(10, 1)] with y := 200, sp := 10 }).map (fun t => t.stack.read 10) = some 200 := by decide

/-- V-STK-4. -/
theorem test_push_z_stk_4 :
    (after { machine 0 0x00 [64] [(3, 77)] with sp := 3 }).map (fun t => (t.observe, t.fault)) =
      some (⟨0, 0, 0, 0, 1, 4, 0x00⟩, .none) := by decide

/-- V-STK-4, the cell pushed. -/
theorem test_push_z_stk_4_cell :
    (after { machine 0 0x00 [64] [(3, 77)] with sp := 3 }).map (fun t => t.stack.read 3) = some 0 := by decide

/-- V-STK-13. -/
theorem test_pull_status_stk_13 :
    (after { machine 0 0xC0 [65] [(0, 5)] with sp := 1 }).map (fun t => (t.observe, t.fault)) =
      some (⟨0, 0, 0, 0, 1, 0, 0x05⟩, .none) := by decide

/-- V-STK-14. -/
theorem test_pull_status_stk_14 :
    (after { machine 30 0x00 [65] [(0, 255)] with sp := 1 }).map (fun t => (t.observe, t.fault)) =
      some (⟨0, 0, 0, 0, 31, 0, 0xFF⟩, .none) := by decide

/-- V-STK-8. -/
theorem test_pull_a_stk_8 :
    (after { machine 0 0x02 [66] [(0, 7)] with sp := 1 }).map (fun t => (t.observe, t.fault)) =
      some (⟨7, 0, 0, 0, 1, 0, 0x02⟩, .none) := by decide

/-- V-STK-9. -/
theorem test_pull_a_stk_9 :
    (after { machine 0 0x00 [66] [(0, 0)] with a := 5, sp := 1 }).map (fun t => (t.observe, t.fault)) =
      some (⟨0, 0, 0, 0, 1, 0, 0x00⟩, .none) := by decide

/-- V-STK-10. -/
theorem test_pull_x_stk_10 :
    (after (machine 0 0x00 [67] [(255, 33)])).map (fun t => (t.observe, t.fault)) =
      some (⟨0, 33, 0, 0, 1, 255, 0x00⟩, .none) := by decide

/-- V-STK-11. -/
theorem test_pull_y_stk_11 :
    (after { machine 0 0x00 [68] [(199, 1)] with sp := 200 }).map (fun t => (t.observe, t.fault)) =
      some (⟨0, 0, 1, 0, 1, 199, 0x00⟩, .none) := by decide

/-- V-STK-12. -/
theorem test_pull_z_stk_12 :
    (after { machine 0 0x00 [69] [(1, 250), (2, 9)] with z := 8, sp := 2 }).map (fun t => (t.observe, t.fault)) =
      some (⟨0, 0, 0, 250, 1, 1, 0x00⟩, .none) := by decide

/-- V-CLR-1. -/
theorem test_clear_status_clr_1 :
    (after (machine 0 0xDF [70] [])).map (fun t => (t.observe, t.fault)) =
      some (⟨0, 0, 0, 0, 1, 0, 0x00⟩, .none) := by decide

/-- V-CLR-3. -/
theorem test_clear_carry_clr_3 :
    (after (machine 0 0xDF [71] [])).map (fun t => (t.observe, t.fault)) =
      some (⟨0, 0, 0, 0, 1, 0, 0xDE⟩, .none) := by decide

/-- V-CLR-5. -/
theorem test_clear_decimal_clr_5 :
    (after (machine 0 0xDF [72] [])).map (fun t => (t.observe, t.fault)) =
      some (⟨0, 0, 0, 0, 1, 0, 0xCF⟩, .none) := by decide

/-- V-CLR-8. -/
theorem test_clear_decimal_clr_8 :
    (after (machine 255 0x10 [72] [])).map (fun t => (t.observe, t.fault)) =
      some (⟨0, 0, 0, 0, 0, 0, 0x00⟩, .none) := by decide

/-- V-CLR-6. -/
theorem test_clear_interrupt_clr_6 :
    (after (machine 0 0xDF [73] [])).map (fun t => (t.observe, t.fault)) =
      some (⟨0, 0, 0, 0, 1, 0, 0xD7⟩, .none) := by decide

/-- V-CLR-7. -/
theorem test_clear_overflow_clr_7 :
    (after (machine 0 0xDF [74] [])).map (fun t => (t.observe, t.fault)) =
      some (⟨0, 0, 0, 0, 1, 0, 0x9F⟩, .none) := by decide

/-- V-SET-1. -/
theorem test_set_status_set_1 :
    (after { machine 0 0x00 [75] [] with a := 195 }).map (fun t => (t.observe, t.fault)) =
      some (⟨195, 0, 0, 0, 1, 0, 0xC3⟩, .none) := by decide

/-- V-SET-4. -/
theorem test_set_status_set_4 :
    (after { machine 255 0x00 [75] [] with a := 255 }).map (fun t => (t.observe, t.fault)) =
      some (⟨255, 0, 0, 0, 0, 0, 0xFF⟩, .none) := by decide

/-- V-SET-5. -/
theorem test_set_decimal_set_5 :
    (after (machine 0 0x00 [77] [])).map (fun t => (t.observe, t.fault)) =
      some (⟨0, 0, 0, 0, 1, 0, 0x10⟩, .none) := by decide

/-- V-SET-6. -/
theorem test_set_interrupt_set_6 :
    (after (machine 0 0x00 [78] [])).map (fun t => (t.observe, t.fault)) =
      some (⟨0, 0, 0, 0, 1, 0, 0x08⟩, .none) := by decide

/-- V-SET-10. -/
theorem test_set_interrupt_set_10 :
    (after (machine 0 0xD7 [78] [])).map (fun t => (t.observe, t.fault)) =
      some (⟨0, 0, 0, 0, 1, 0, 0xDF⟩, .none) := by decide

/-- V-SET-7. -/
theorem test_set_overflow_set_7 :
    (after (machine 0 0x00 [79] [])).map (fun t => (t.observe, t.fault)) =
      some (⟨0, 0, 0, 0, 1, 0, 0x40⟩, .none) := by decide

/-- V-CMP-8. -/
theorem test_is_eq_cmp_8 :
    (after { machine 0 0xDF [80] [] with a := 1, z := 2 }).map (fun t => (t.observe, t.fault)) =
      some (⟨1, 0, 0, 2, 1, 0, 0xDB⟩, .none) := by decide

/-- V-CMP-9. -/
theorem test_is_ls_cmp_9 :
    (after { machine 255 0x00 [83] [] with a := 1, z := 2 }).map (fun t => (t.observe, t.fault)) =
      some (⟨1, 0, 0, 2, 0, 0, 0x04⟩, .none) := by decide

/-- V-CMP-10. -/
theorem test_is_gr_cmp_10 :
    (after (machine 0 0x02 [81] [])).map (fun t => (t.observe, t.fault)) =
      some (⟨0, 0, 0, 0, 1, 0, 0x02⟩, .none) := by decide

/-- V-JMP-1. -/
theorem test_jump_jmp_1 :
    (after { machine 3 0x00 [90] [] with a := 200 }).map (fun t => (t.observe, t.fault)) =
      some (⟨200, 0, 0, 0, 200, 0, 0x00⟩, .none) := by decide

/-- V-JMP-4. -/
theorem test_jump_true_jmp_4 :
    (after { machine 4 0x04 [91] [] with a := 50 }).map (fun t => (t.observe, t.fault)) =
      some (⟨50, 0, 0, 0, 50, 0, 0x04⟩, .none) := by decide

/-- V-JMP-6. -/
theorem test_jump_true_jmp_6 :
    (after { machine 255 0x00 [91] [] with a := 50 }).map (fun t => (t.observe, t.fault)) =
      some (⟨50, 0, 0, 0, 0, 0, 0x00⟩, .none) := by decide

/-- V-JMP-7. -/
theorem test_jump_false_jmp_7 :
    (after { machine 4 0x00 [92] [] with a := 50 }).map (fun t => (t.observe, t.fault)) =
      some (⟨50, 0, 0, 0, 50, 0, 0x00⟩, .none) := by decide

/-- V-JMP-8. -/
theorem test_jump_false_jmp_8 :
    (after { machine 4 0x04 [92] [] with a := 50 }).map (fun t => (t.observe, t.fault)) =
      some (⟨50, 0, 0, 0, 5, 0, 0x04⟩, .none) := by decide

/-- V-FLT-2. -/
theorem test_byte_flt_2 :
    (after { machine 17 0xDF [255] [] with a := 1, x := 2, y := 3, z := 4, sp := 5 }).map (fun t => (t.observe, t.fault)) =
      some (⟨1, 2, 3, 4, 17, 5, 0xFF⟩, .unknownOpcode 255 17) := by decide

/-- V-FLT-3. -/
theorem test_shl_flt_3 :
    (after { machine 2 0x00 [40] [] with a := 1 }).map (fun t => (t.observe, t.fault)) =
      some (⟨1, 0, 0, 0, 2, 0, 0x20⟩, .unknownOpcode 40 2) := by decide

/-- V-FLT-4. -/
theorem test_shr_flt_4 :
    (after { machine 0 0x00 [41] [] with a := 128 }).map (fun t => (t.observe, t.fault)) =
      some (⟨128, 0, 0, 0, 0, 0, 0x20⟩, .unknownOpcode 41 0) := by decide

/-- V-ARI-20. -/
theorem test_div_ari_20 :
    (after { machine 2 0x02 [23] [] with a := 9 }).map (fun t => (t.observe, t.fault)) =
      some (⟨9, 0, 0, 0, 2, 0, 0x22⟩, .divideByZero 2) := by decide

/-- V-FLT-9. -/
theorem test_div_flt_9 :
    (after (machine 100 0xDD [23] [])).map (fun t => (t.observe, t.fault)) =
      some (⟨0, 0, 0, 0, 100, 0, 0xFD⟩, .divideByZero 100) := by decide

/-- V-SET-11 to V-SET-14 in general: the status byte is the parameter, whatever it is. -/
theorem test_set_carry (s : State) :
    execSetCarry s = .next ((s.writeStatus Config.setCarryStatusValue).advance 1) := by rfl

/-- V-SET-14, with the parameter 0xC3. -/
theorem test_set_carry_with_a_value :
    (((machine 0 0x5F [0x4C] []).writeStatus 0xC3).advance 1).observe = ⟨0, 0, 0, 0, 1, 0, 0xC3⟩ := by decide

/-- V-CMP-3 and V-CMP-4, the rows that a signed comparison would answer otherwise. -/
theorem test_comparisons_are_unsigned :
    [0x50, 0x51, 0x52, 0x53, 0x54].map
        (fun op => (after { machine 0 0 [op] [] with a := 200, z := 3 }).map (fun t => t.flags.trueFalse)) =
      [some false, some true, some true, some false, some false] ∧
    [0x50, 0x51, 0x52, 0x53, 0x54].map
        (fun op => (after { machine 0 0 [op] [] with a := 0, z := 255 }).map (fun t => t.flags.trueFalse)) =
      [some false, some false, some false, some true, some true] := by decide

/-- V-RST-1, from the end state of V-FLT-2. -/
theorem test_reset : ({ machine 17 0xFF [255] [(3, 9)] with a := 1, x := 2, y := 3, z := 4, sp := 5 } : State).resetOp =
    State.reset := by
  set_option maxRecDepth 100000 in decide

/-- V-RST-2: the empty program P9. -/
theorem test_empty_program : (execute 1 State.reset).map State.observe = some ⟨0, 0, 0, 0, 0, 0, 0x20⟩ := by decide

/-- V-RST-3: Execute of a halted machine performs no step. -/
theorem test_halted_is_inert : execute 5 (machine 0 0x20 [1] []) = some (machine 0 0x20 [1] []) ∧
    step (machine 0 0x20 [1] []) = .fault .halted := ⟨by decide, rfl⟩

/-- P6: the operand of an opcode at 255 is the byte at 0. -/
theorem test_operand_wraps : (after (machine 255 0 [0x33, 0x32] [])).map State.observe =
    some ⟨0, 50, 0, 0, 1, 0, 0⟩ := by decide

theorem test_fault_ports : (State.faultPorts { State.reset with fault := .divideByZero 2 }).opcode = some 23 := by
  decide

end vectors

section witnesses

/-- A running machine with nothing on its stack, at a byte. -/
def runningAt (op : Byte) : State := machine 0 0 [op] []

theorem witness_ResetOperationGivesTheResetState :
    (runningAt 3).mem.wf ∧ (runningAt 3).stack.wf := by decide

theorem witness_StepKeepsTheInvariant :
    (runningAt 3).Inv ∧ step (runningAt 3) = .next ((runningAt 3).unknownOpcode 3) :=
  ⟨⟨by decide, by decide, trivial⟩, rfl⟩

theorem witness_StepKeepsTheInvariant_divide_by_zero :
    (runningAt 23).Inv ∧ step (runningAt 23) = .next (runningAt 23).divideByZero :=
  ⟨⟨by decide, by decide, trivial⟩, rfl⟩

theorem witness_EncodeOfDecodeIsTheBytes : decode [0x32, 0, 7] = .ok (.setAVal 0, [7]) := by rfl

theorem witness_ExactlyTheListedValuesAreUnbound :
    [3, 9, 14, 19, 24, 29, 32, 49, 54, 59, 85, 89, 93, 255].all (fun op => !handlerBound op) ∧
    [2, 10, 13, 20, 23, 30, 31, 50, 53, 60, 84, 90, 92].all handlerBound := by decide

/-- Each of the four clauses, at the address where the operand wraps. -/
theorem witness_ImmediateIsTheByteAfterTheOpcode :
    ∀ op ∈ [50, 51, 52, 53], (machine 255 0 [op, 9] []).running ∧ (machine 255 0 [op, 9] []).mem.read 255 = op := by
  decide

theorem witness_StepRunsTheDecodedInstruction :
    (machine 255 0 [0x35, 50] []).running ∧
    decode [(machine 255 0 [0x35, 50] []).mem.read 255, (machine 255 0 [0x35, 50] []).mem.read (mod256 256)] =
      .ok (.setZVal 50, []) := ⟨rfl, rfl⟩

theorem witness_UnboundOpcodeTakesTheFailStop :
    ∀ op ∈ [3, 40, 41, 93, 255], (runningAt op).running ∧ handlerBound ((runningAt op).mem.read 0) = false := by
  decide

theorem witness_ExecuteIsTheFetchDecodeLoop_halted : (machine 0 0x20 [] []).halted := by decide
theorem witness_ExecuteIsTheFetchDecodeLoop_unbound :
    (runningAt 93).running ∧ handlerBound ((runningAt 93).mem.read 0) = false := by decide
theorem witness_ExecuteIsTheFetchDecodeLoop_bound : (runningAt 92).running ∧
    decodeBytes ((runningAt 92).mem.read 0) ((runningAt 92).mem.read (mod256 1)) = some .jumpFalse ∧
    exec .jumpFalse (runningAt 92) = .next ((runningAt 92).jumpTo 0) := ⟨rfl, rfl, rfl⟩

theorem witness_AHaltedMachineTakesNoStep : (machine 0 0xFF [0x1E] []).halted := by decide
theorem witness_EveryRunningStateHasAStep : (machine 255 0xDF [255] []).running := by decide

theorem witness_HaltSetsTheHaltFlagAndKeepsIp : (machine 255 0xDF [0] []).mem.read 255 = 0 := by decide

/-- A memory filled with NOPs. -/
def allNops : State := { State.reset with mem := (List.range 256).map fun k => (k, 1) }
theorem witness_NopOnlyAdvances : allNops.running ∧ ∀ addr, allNops.mem.read addr = 1 := by
  have h : ∀ n : Fin 256, allNops.mem.read (BitVec.ofNat 8 n.1) = 1 := by
    set_option maxRecDepth 100000 in decide
  refine ⟨rfl, fun addr => ?_⟩
  have := h ⟨addr.toNat, addr.isLt⟩
  simpa using this

theorem witness_AReachedBreakIsNeverLeft : (runningAt 2).running ∧ (runningAt 2).mem.read 0 = 2 := by decide

/-- 44 = 6 * 7 + 2, and the bounds 255 = 255 * 1 + 0 and 0 = 0 * 255 + 0. -/
theorem witness_DivGivesQuotientAndRemainder :
    ∀ p ∈ [((44 : Byte), (7 : Byte), 6, 2), (255, 1, 255, 0), (0, 255, 0, 0)],
      ({ State.reset with a := p.1, z := p.2.1 } : State).a.toNat = p.2.2.1 * p.2.1.toNat + p.2.2.2 ∧
        p.2.2.2 < p.2.1.toNat := by decide
theorem witness_DivByZeroFailStops : (runningAt 23).z = 0 := by decide

/-- A stack in canonical form at the SP where it wraps, for every statement whose hypothesis is that form. -/
def stackAtTop : State := { machine 255 0xDF [0x3C] [(0, 7), (255, 9)] with a := 66, sp := 255 }
theorem witness_PushWritesThenIncrements : stackAtTop.stack.wf := by decide
theorem witness_PushStatusPushesTheComposedByte : stackAtTop.stack.wf ∧ stackAtTop.running := by decide
theorem witness_PushThenPullCopiesTheRegister : stackAtTop.stack.wf := by decide
theorem witness_PushStatusThenPullStatusRestoresEveryFlag : stackAtTop.stack.wf := by decide
theorem witness_StackChangesOnlyAtThePushedCell : stackAtTop.stack.wf := by decide

theorem witness_PullStatusLoadsEveryFlag :
    ((machine 0 0 [0x41] [(255, 32)]).stack.read (mod256 255)).getLsbD 5 = true := by decide
theorem witness_SetStatusLoadsEveryFlagFromA :
    ({ runningAt 75 with a := 32 } : State).a.getLsbD 5 = true := by decide

theorem witness_JumpGoesToA : (runningAt 90).running ∧ (runningAt 90).mem.read 0 = 90 ∧
    (runningAt 90).a = (runningAt 90).ip := by decide
theorem witness_JumpGoesToA_halting : ({ runningAt 90 with a := 255 } : State).running ∧
    ({ runningAt 90 with a := 255 } : State).mem.read 0 = 90 ∧
    ({ runningAt 90 with a := 255 } : State).mem.read 255 = 0 := by decide

theorem witness_InstructionPointerAfterEachInstruction :
    State.reset.z = 0 ∧ State.reset.flags.trueFalse = false ∧
    (machine 255 4 [] []).flags.trueFalse = true ∧ ({ State.reset with z := 1 } : State).z ≠ 0 := by decide

/-- Each conditional clause of the writer tables has an instruction that makes the change. -/
theorem witness_RegistersChangeOnlyWhereListed :
    (after (runningAt 0x1E)).map State.a = some 1 ∧ (after (machine 0 0 [0x33, 7] [])).map State.x = some 7 ∧
    (after (machine 0 0 [0x34, 7] [])).map State.y = some 7 ∧
    (after { runningAt 0x17 with a := 3, z := 2 }).map State.z = some 1 := by decide
theorem witness_FlagsChangeOnlyWhereListed :
    (after { runningAt 75 with a := 0xFF }).map (fun t => t.flags.compose) = some 0xFF ∧
    (runningAt 75).flags.compose = 0 := by decide

theorem witness_StorageFlagsSteerNothing :
    Instr.add ≠ .pushStatus ∧ (Flags.decompose 0xDB).trueFalse = State.reset.flags.trueFalse := by decide
theorem witness_RegistersAreReadOnlyWhereListed :
    Instr.jump ≠ .pushX ∧ Instr.jump ≠ .pushY ∧
    Instr.and ∉ [.add, .sub, .mul, .div, .isEq, .isGr, .isGre, .isLs, .isLse, .pushZ] ∧
    Instr.pushZ ∉ [.not, .and, .or, .xor, .add, .sub, .mul, .div, .inc, .dec, .pushA, .setStatus, .isEq, .isGr,
      .isGre, .isLs, .isLse, .jump, .jumpTrue, .jumpFalse] := by decide

/-- The four ways of halting, each from a state with the invariant. -/
theorem witness_AStepHaltsInOneOfFourWays :
    ∀ op ∈ [0, 40, 23, 75], (runningAt op).mem.wf ∧ (runningAt op).stack.wf ∧ (runningAt op).recordAgrees ∧
      (after { runningAt op with a := 32 }).map (fun t => t.flags.halt) = some true := fun op h =>
  ⟨(by decide : ∀ op ∈ [0, 40, 23, 75], (runningAt op).mem.wf) op h,
    (by decide : ∀ op ∈ [0, 40, 23, 75], (runningAt op).stack.wf) op h, trivial,
    (by decide : ∀ op ∈ [0, 40, 23, 75],
      (after { runningAt op with a := 32 }).map (fun t => t.flags.halt) = some true) op h⟩

/-- A run that never ends (a BREAK repeats itself) and one that ends. -/
theorem witness_ExecuteNeverChangesMemory :
    core.run 3 (runningAt 2) = .next (runningAt 2) ∧ execute 1 (runningAt 40) = some ((runningAt 40).unknownOpcode 40) :=
  ⟨rfl, by decide⟩
theorem witness_ExecuteReturnsOnlyHaltedAndFinal : (execute 3 (State.reset.loadImage [0x32, 123, 90])).map State.observe =
    some ⟨123, 0, 0, 0, 123, 0, 0x20⟩ := by decide
theorem witness_RunsKeepTheInvariant :
    (runningAt 40).Inv ∧ (execute 1 (runningAt 40)).map State.fault = some (.unknownOpcode 40 0) ∧
    (runningAt 23).Inv ∧ (execute 1 (runningAt 23)).map State.fault = some (.divideByZero 0) :=
  ⟨⟨by decide, by decide, trivial⟩, by decide, ⟨by decide, by decide, trivial⟩, by decide⟩

theorem witness_ALoadedImageIsReadBack : stackAtTop.mem.wf ∧ stackAtTop.stack.wf ∧
    imageWellFormed (List.replicate 256 7) = true :=
  ⟨by decide, by decide, by rw [imageWellFormed, List.length_replicate]; decide⟩
theorem witness_ResetErasesALoadedProgram : stackAtTop.mem.wf ∧ stackAtTop.stack.wf := by decide
theorem witness_EqualReadsMeanEqualArrays :
    Memory.wf [(0, 1), (255, 2)] ∧ Memory.wf ((Memory.write [] 255 2).write 0 1) ∧
    ((Memory.write [] 255 2).write 0 1) = [(0, 1), (255, 2)] := by decide

end witnesses

end Sys2Proof.Tests
end

/-! ## The facts that the statements about the state share: bytes, the status byte, DIV and the conditional jumps as one
record each, the top of the stack, and how `execute` returns. -/

namespace Sys2Proof.Machine

section bytes
variable (b : Byte)

/-- The spec's `(b + n) mod 256` is the byte's own wrapping addition (`00_scope.md` R8). -/
theorem mod256_toNat_add (n : Nat) : mod256 (b.toNat + n) = b + BitVec.ofNat 8 n := by
  apply BitVec.eq_of_toNat_eq
  simp [mod256]

theorem mod256_toNat_add_one : mod256 (b.toNat + 1) = b + 1 := mod256_toNat_add b 1

theorem mod256_toNat_add_two : mod256 (b.toNat + 2) = b + 2 := mod256_toNat_add b 2

/-- The spec's `(b - 1) mod 256`, written without a negative number. -/
theorem mod256_toNat_add_255 : mod256 (b.toNat + 255) = b - 1 := by
  rw [mod256_toNat_add, BitVec.sub_eq_add_neg]
  rfl

end bytes

section statusByte

/-- A shifted flag has its flag at its place and 0 at every other. -/
theorem flagBit_getElem (b : Bool) (place : Nat) {i : Nat} (hi : i < 8) :
    (flagBit b place)[i] = (b && decide (i = place)) := by
  cases b
  · simp [flagBit]
  · simp only [flagBit, Bool.toNat_true, BitVec.getElem_shiftLeft, Bool.true_and]
    by_cases h : i < place <;> simp [h] <;> omega

/-- The composed byte, bit by bit (`10_state.md` R16, R17). -/
theorem Flags.compose_getLsbD (f : Flags) :
    f.compose.getLsbD 0 = f.carry ∧ f.compose.getLsbD 1 = f.zero ∧ f.compose.getLsbD 2 = f.trueFalse ∧
      f.compose.getLsbD 3 = f.interruptDisable ∧ f.compose.getLsbD 4 = f.decimalMode ∧
      f.compose.getLsbD 5 = f.halt ∧ f.compose.getLsbD 6 = f.overflow ∧ f.compose.getLsbD 7 = f.negative := by
  simp [Flags.compose, flagBit_getElem]

/-- The composed byte as a number: the flags' places do not overlap, so the OR is a sum. -/
theorem Flags.compose_toNat (f : Flags) :
    f.compose.toNat = f.carry.toNat + 2 * f.zero.toNat + 4 * f.trueFalse.toNat + 8 * f.interruptDisable.toNat +
      16 * f.decimalMode.toNat + 32 * f.halt.toNat + 64 * f.overflow.toNat + 128 * f.negative.toNat := by
  have table : ∀ c z t i d h o n : Bool, (Flags.compose ⟨c, z, t, i, d, h, o, n⟩).toNat =
      c.toNat + 2 * z.toNat + 4 * t.toNat + 8 * i.toNat + 16 * d.toNat + 32 * h.toNat + 64 * o.toNat +
        128 * n.toNat := by decide
  exact table ..

@[simp] theorem Flags.decompose_compose (f : Flags) : Flags.decompose f.compose = f := by
  simp only [Flags.decompose, Flags.compose_getLsbD]

@[simp] theorem Flags.compose_decompose (v : Byte) : (Flags.decompose v).compose = v := by
  obtain ⟨h0, h1, h2, h3, h4, h5, h6, h7⟩ := (Flags.decompose v).compose_getLsbD
  refine BitVec.eq_of_getLsbD_eq fun i hi => ?_
  interval_cases i <;> assumption

end statusByte

section conditionalInstructions
variable (s : State)

/-- DIV as one record: what it leaves in each field it can write, by whether Z is 0. -/
theorem exec_div :
    exec .div s = .next { s with
      a := if s.z = 0 then s.a else s.a.udiv s.z
      z := if s.z = 0 then s.z else s.a.umod s.z
      ip := if s.z = 0 then s.ip else s.ip + 1
      flags := if s.z = 0 then s.flags.setHalt true else s.flags.setZeroFrom (s.a.udiv s.z)
      fault := if s.z = 0 then .divideByZero s.ip else s.fault } := by
  obtain ⟨hz, h⟩ | ⟨hz, h⟩ := execDiv_cases s
  · simp only [if_pos hz]
    exact h
  · simp only [if_neg hz]
    exact h

theorem exec_jumpTrue :
    exec .jumpTrue s = .next { s with ip := if s.flags.trueFalse then s.a else s.ip + 1 } :=
  congrArg _ (s.jumpIf_eq _)

theorem exec_jumpFalse :
    exec .jumpFalse s = .next { s with ip := if !s.flags.trueFalse then s.a else s.ip + 1 } :=
  congrArg _ (s.jumpIf_eq _)

end conditionalInstructions

section topOfStack
variable {s : State} (hs : s.stack.wf) (v : Byte)
include hs

theorem State.stack_read_pushValue (c : Byte) :
    (s.pushValue v).stack.read c = if c = s.sp then v else s.stack.read c :=
  Memory.read_write hs s.sp v c

/-- The cell that a pull after a push reads is the one pushed, at every SP (`10_state.md` R15). -/
theorem State.stack_read_pushValue_top : (s.pushValue v).stack.read ((s.pushValue v).sp - 1) = v := by
  have top : (s.pushValue v).sp - 1 = s.sp := BitVec.add_sub_cancel s.sp 1
  rw [top, State.stack_read_pushValue hs, if_pos rfl]

end topOfStack

theorem exec_pullStatus (s : State) :
    exec .pullStatus s = .next { s with
      flags := Flags.decompose (s.stack.read (s.sp - 1)), sp := s.sp - 1, ip := s.ip + 1 } := rfl

section executeLoop

theorem execute_of_halted {s : State} (h : s.halted) : ∀ n, execute n s = some s
  | 0 => if_pos h
  | _ + 1 => if_pos h

theorem execute_succ_of_step {s t : State} (h : step s = .next t) (n : Nat) :
    execute (n + 1) s = execute n t := by
  have hr : s.running := (step_cases h).1
  simp [execute, h, hr]

/-- How an Execute returns: at once from a halted state, or after a step. -/
theorem execute_cases {n : Nat} {s t : State} (h : execute n s = some t) :
    (s.halted ∧ t = s) ∨ ∃ m u, n = m + 1 ∧ step s = .next u ∧ execute m u = some t := by
  by_cases hh : s.halted
  · rw [execute_of_halted hh] at h
    exact .inl ⟨hh, (Option.some.inj h).symm⟩
  · cases n with
    | zero => simp [execute, hh] at h
    | succ m =>
      rw [execute, if_neg hh] at h
      split at h
      · next u hu => exact .inr ⟨m, u, rfl, hu, h⟩
      · cases h
      · cases h

/-- What has returned is returned within any larger number of iterations. -/
theorem execute_add {n : Nat} {s t : State} (h : execute n s = some t) (k : Nat) :
    execute (n + k) s = some t := by
  induction n generalizing s with
  | zero =>
    obtain ⟨hh, rfl⟩ | ⟨m, u, hm, -, -⟩ := execute_cases h
    · exact execute_of_halted hh _
    · cases hm
  | succ n ih =>
    obtain ⟨hh, rfl⟩ | ⟨m, u, hm, hs, hu⟩ := execute_cases h
    · exact execute_of_halted hh _
    · cases hm
      rw [Nat.succ_add, execute_succ_of_step hs]
      exact ih hu

end executeLoop

/-! ## The statements about the state (`10_state.md`)

A table over all 47 instructions is proved by cases of the instruction. The named cases are the rows that the table
singles out; DIV and the conditional jumps go through their record equations above; every remaining instruction
leaves what the row speaks of as it was, which holds by computation. -/

section writerTables

/-- Settles O42: a push writes one cell (`State.stack_read_pushValue`), and no other instruction writes the array. -/
theorem stackChangesOnlyAtThePushedCell : Obligations.StackChangesOnlyAtThePushedCell := by
  intro i s hs
  cases i
  case pushStatus | pushA | pushX | pushY | pushZ =>
    exact ⟨_, rfl, by simp, fun _ c hc => (State.stack_read_pushValue hs _ c).trans (if_neg hc)⟩
  case div => exact ⟨_, exec_div s, fun _ _ => rfl, by simp⟩
  case jumpTrue => exact ⟨_, exec_jumpTrue s, fun _ _ => rfl, by simp⟩
  case jumpFalse => exact ⟨_, exec_jumpFalse s, fun _ _ => rfl, by simp⟩
  all_goals exact ⟨_, rfl, fun _ _ => rfl, by simp⟩

/-- Settles O43: pushes, pulls and the rest. -/
theorem stackPointerAfterEachInstruction : Obligations.StackPointerAfterEachInstruction := by
  intro i s
  rw [mod256_toNat_add_one, mod256_toNat_add_255]
  cases i
  case pushStatus | pushA | pushX | pushY | pushZ => exact ⟨_, rfl, fun _ => rfl, by simp, by simp⟩
  case pullStatus | pullA | pullX | pullY | pullZ => exact ⟨_, rfl, by simp, fun _ => rfl, by simp⟩
  case div => exact ⟨_, exec_div s, by simp, by simp, fun _ => rfl⟩
  case jumpTrue => exact ⟨_, exec_jumpTrue s, by simp, by simp, fun _ => rfl⟩
  case jumpFalse => exact ⟨_, exec_jumpFalse s, by simp, by simp, fun _ => rfl⟩
  all_goals exact ⟨_, rfl, by simp, by simp, fun _ => rfl⟩

/-- Settles O44: IP kept, advanced by two, set to A, or advanced by one; DIV and the conditional jumps stand in two
rows each. -/
theorem instructionPointerAfterEachInstruction : Obligations.InstructionPointerAfterEachInstruction := by
  intro i s
  rw [mod256_toNat_add_one, mod256_toNat_add_two]
  cases i
  case halt | brk | shl | shr => exact ⟨_, rfl, fun _ => rfl, by simp, by simp, by simp⟩
  case setAVal | setXVal | setYVal | setZVal => exact ⟨_, rfl, by simp, fun _ => rfl, by simp, by simp⟩
  case jump => exact ⟨_, rfl, by simp, by simp, fun _ => rfl, by simp⟩
  case jumpTrue => exact ⟨_, exec_jumpTrue s, by simp, by simp, by simp +contextual, by simp +contextual⟩
  case jumpFalse => exact ⟨_, exec_jumpFalse s, by simp, by simp, by simp +contextual, by simp +contextual⟩
  case div => exact ⟨_, exec_div s, by simp +contextual, by simp, by simp, by simp +contextual⟩
  all_goals exact ⟨_, rfl, by simp, by simp, by simp, fun _ => rfl⟩

/-- Settles O45: the named cases are the writers of A, X, Y, Z; what a case does not write it keeps. -/
theorem registersChangeOnlyWhereListed : Obligations.RegistersChangeOnlyWhereListed := by
  intro i s
  cases i
  case not | and | or | xor | add | sub | mul | inc | dec | setAVal | pullA =>
    exact ⟨_, rfl, fun _ => by simp, absurd rfl, absurd rfl, absurd rfl⟩
  case setXVal | pullX => exact ⟨_, rfl, absurd rfl, fun _ => by simp, absurd rfl, absurd rfl⟩
  case setYVal | pullY => exact ⟨_, rfl, absurd rfl, absurd rfl, fun _ => by simp, absurd rfl⟩
  case setZVal | pullZ => exact ⟨_, rfl, absurd rfl, absurd rfl, absurd rfl, fun _ => by simp⟩
  case div => exact ⟨_, exec_div s, fun _ => by simp, absurd rfl, absurd rfl, fun _ => by simp⟩
  case jumpTrue => exact ⟨_, exec_jumpTrue s, absurd rfl, absurd rfl, absurd rfl, absurd rfl⟩
  case jumpFalse => exact ⟨_, exec_jumpFalse s, absurd rfl, absurd rfl, absurd rfl, absurd rfl⟩
  all_goals exact ⟨_, rfl, absurd rfl, absurd rfl, absurd rfl, absurd rfl⟩

/-- Settles O46: each case is the law of the operation that the instruction is made of, which names the one flag it
writes; a whole-status write is in every row. -/
theorem flagsChangeOnlyWhereListed : Obligations.FlagsChangeOnlyWhereListed := by
  intro i s
  cases i
  case not | and | or | xor | add | sub | mul | inc | dec => exact ⟨_, rfl, by simp [State.resultToA_eq]⟩
  case div =>
    obtain ⟨hz, h⟩ | ⟨-, h⟩ := execDiv_cases s
    · exact ⟨_, h, by simp [State.divideByZero_def, hz]⟩
    · exact ⟨_, h, by simp [State.resultToA_eq]⟩
  case setAVal | setXVal | setYVal | setZVal => exact ⟨_, rfl, by simp [State.loadImmediate_eq]⟩
  case isEq | isGr | isGre | isLs | isLse => exact ⟨_, rfl, by simp [State.compare_eq]⟩
  case shl | shr => exact ⟨_, rfl, by simp [State.unknownOpcode_def]⟩
  case pushStatus | pushA | pushX | pushY | pushZ => exact ⟨_, rfl, by simp [State.pushValue_eq]⟩
  case pullA | pullX | pullY | pullZ => exact ⟨_, rfl, by simp [State.pullReg_eq]⟩
  case jumpTrue => exact ⟨_, exec_jumpTrue s, by simp⟩
  case jumpFalse => exact ⟨_, exec_jumpFalse s, by simp⟩
  all_goals exact ⟨_, rfl, by simp⟩

end writerTables

section readerTables

/-- Settles O48: a whole-status write leaves the same flags in both runs; an instruction that writes one flag writes
the same value in both and keeps the others; the rest keep every flag. Only the conditional jumps read one, the
TRUEFALSE that the two states share. -/
theorem storageFlagsSteerNothing : Obligations.StorageFlagsSteerNothing := by
  intro i s f hi hf
  cases i
  case pushStatus => exact absurd rfl hi
  case clearStatus | setStatus | setCarry | pullStatus =>
    exact ⟨_, _, rfl, rfl, rfl, rfl, fun _ _ => .inl rfl⟩
  case halt | clearCarry | clearDecimal | clearInterrupt | clearOverflow | setDecimal | setInterrupt | setOverflow =>
    exact ⟨_, _, rfl, rfl, rfl, hf, by simp⟩
  case not | and | or | xor | add | sub | mul | inc | dec =>
    exact ⟨_, _, rfl, rfl, rfl, hf, by simp [State.resultToA_eq]⟩
  case setAVal | setXVal | setYVal | setZVal =>
    exact ⟨_, _, rfl, rfl, rfl, hf, by simp [State.loadImmediate_eq]⟩
  case isEq | isGr | isGre | isLs | isLse => exact ⟨_, _, rfl, rfl, rfl, rfl, by simp [State.compare_eq]⟩
  case shl | shr => exact ⟨_, _, rfl, rfl, rfl, hf, by simp [State.unknownOpcode_def]⟩
  case div =>
    refine ⟨_, _, exec_div s, exec_div _, rfl, ?_⟩
    by_cases hz : s.z = 0#8 <;> simp [hz, hf]
  case jumpTrue =>
    exact ⟨_, _, exec_jumpTrue s, exec_jumpTrue _, by rw [hf], hf, fun _ _ => .inr ⟨rfl, rfl⟩⟩
  case jumpFalse =>
    exact ⟨_, _, exec_jumpFalse s, exec_jumpFalse _, by rw [hf], hf, fun _ _ => .inr ⟨rfl, rfl⟩⟩
  all_goals exact ⟨_, _, rfl, rfl, rfl, hf, fun _ _ => .inr ⟨rfl, rfl⟩⟩

/-- Settles O49, register by register: its readers are excluded, a writer that does not read it leaves the same value
in both runs, and every other instruction carries it through. -/
theorem registersAreReadOnlyWhereListed : Obligations.RegistersAreReadOnlyWhereListed := by
  intro i s v
  refine ⟨fun hi => ?a, fun hi => ?x, fun hi => ?y, fun hi => ?z⟩
  case a =>
    cases i
    case not | and | or | xor | add | sub | mul | div | inc | dec | pushA | setStatus | isEq | isGr | isGre | isLs |
        isLse | jump | jumpTrue | jumpFalse => simp at hi
    case setAVal | pullA => exact ⟨_, _, rfl, rfl, rfl, .inl rfl⟩
    all_goals exact ⟨_, _, rfl, rfl, rfl, .inr ⟨rfl, rfl⟩⟩
  case x =>
    cases i
    case pushX => exact absurd rfl hi
    case setXVal | pullX => exact ⟨_, _, rfl, rfl, rfl, .inl rfl⟩
    case div => exact ⟨_, _, exec_div s, exec_div _, rfl, .inr ⟨rfl, rfl⟩⟩
    case jumpTrue => exact ⟨_, _, exec_jumpTrue s, exec_jumpTrue _, rfl, .inr ⟨rfl, rfl⟩⟩
    case jumpFalse => exact ⟨_, _, exec_jumpFalse s, exec_jumpFalse _, rfl, .inr ⟨rfl, rfl⟩⟩
    all_goals exact ⟨_, _, rfl, rfl, rfl, .inr ⟨rfl, rfl⟩⟩
  case y =>
    cases i
    case pushY => exact absurd rfl hi
    case setYVal | pullY => exact ⟨_, _, rfl, rfl, rfl, .inl rfl⟩
    case div => exact ⟨_, _, exec_div s, exec_div _, rfl, .inr ⟨rfl, rfl⟩⟩
    case jumpTrue => exact ⟨_, _, exec_jumpTrue s, exec_jumpTrue _, rfl, .inr ⟨rfl, rfl⟩⟩
    case jumpFalse => exact ⟨_, _, exec_jumpFalse s, exec_jumpFalse _, rfl, .inr ⟨rfl, rfl⟩⟩
    all_goals exact ⟨_, _, rfl, rfl, rfl, .inr ⟨rfl, rfl⟩⟩
  case z =>
    cases i
    case add | sub | mul | div | isEq | isGr | isGre | isLs | isLse | pushZ => simp at hi
    case setZVal | pullZ => exact ⟨_, _, rfl, rfl, rfl, .inl rfl⟩
    case jumpTrue => exact ⟨_, _, exec_jumpTrue s, exec_jumpTrue _, rfl, .inr ⟨rfl, rfl⟩⟩
    case jumpFalse => exact ⟨_, _, exec_jumpFalse s, exec_jumpFalse _, rfl, .inr ⟨rfl, rfl⟩⟩
    all_goals exact ⟨_, _, rfl, rfl, rfl, .inr ⟨rfl, rfl⟩⟩

/-- Settles O50: the fail-stops leave the same record in both runs, every other instruction carries the record
through. -/
theorem noInstructionReadsTheFaultRecord : Obligations.NoInstructionReadsTheFaultRecord := by
  intro i s r
  cases i
  case shl | shr => exact ⟨_, _, rfl, rfl, rfl, .inl rfl⟩
  case div =>
    refine ⟨_, _, exec_div s, exec_div _, rfl, ?_⟩
    by_cases hz : s.z = 0#8 <;> simp [hz]
  case jumpTrue => exact ⟨_, _, exec_jumpTrue s, exec_jumpTrue _, rfl, .inr ⟨rfl, rfl⟩⟩
  case jumpFalse => exact ⟨_, _, exec_jumpFalse s, exec_jumpFalse _, rfl, .inr ⟨rfl, rfl⟩⟩
  all_goals exact ⟨_, _, rfl, rfl, rfl, .inr ⟨rfl, rfl⟩⟩

end readerTables

section statusAndReset

/-- Settles O30: the pull reads the byte just pushed, and decomposing a composed byte gives the flags back. -/
theorem pushStatusThenPullStatusRestoresEveryFlag :
    Obligations.PushStatusThenPullStatusRestoresEveryFlag := by
  intro s hs
  refine ⟨_, _, rfl, exec_pullStatus _, ?flags, ?sp, ?ip, fun r => ?reg⟩
  case flags => simp only [State.stack_read_pushValue_top hs, Flags.decompose_compose]
  case sp => exact BitVec.add_sub_cancel s.sp 1
  case ip =>
    rw [mod256_toNat_add_two]
    exact BitVec.add_assoc s.ip 1 1
  case reg => cases r <;> rfl

/-- Settles O31. -/
theorem statusByteBitsAreTheFlags : Obligations.StatusByteBitsAreTheFlags := by
  intro f
  obtain ⟨h0, h1, h2, h3, h4, h5, h6, h7⟩ := f.compose_getLsbD
  exact ⟨h0, h1, h2, h3, h4, h5, h6, h7, f.compose_toNat⟩

/-- Settles O32. -/
theorem statusByteRoundTrips : Obligations.StatusByteRoundTrips :=
  ⟨Flags.compose_decompose, Flags.decompose_compose⟩

/-- Settles O1. -/
theorem resetStateIsAllZero : Obligations.ResetStateIsAllZero :=
  ⟨rfl, rfl, rfl, rfl, rfl, rfl, rfl, fun _ => rfl, fun _ => rfl, rfl⟩

/-- Settles O3: the arrays are empty, and there is no fault record to agree with anything. -/
theorem resetMeetsTheInvariant : Obligations.ResetMeetsTheInvariant where
  memWf := State.reset_arrays_wf.1
  stackWf := State.reset_arrays_wf.2
  record := trivial

end statusAndReset

section halting

/-- Settles O13. -/
theorem aHaltedMachineTakesNoStep : Obligations.AHaltedMachineTakesNoStep :=
  fun _ h => ⟨step_of_halted h, execute_of_halted h⟩

/-- Settles O53: the last state of an Execute that returns is halted, and more iterations change nothing. -/
theorem executeReturnsOnlyHaltedAndFinal : Obligations.ExecuteReturnsOnlyHaltedAndFinal := by
  intro n k s t h
  have halted : t.halted :=
    execute_induction (P := fun _ t => t.halted) (fun _ hs => hs) (fun _ _ _ _ hu => hu) n s t h
  exact ⟨halted, execute_add h k⟩

end halting

end Sys2Proof.Machine

/-! ## The facts about memory that the statements share: no step writes it, what an array in canonical form lists, and
what Reset and the host's load leave in it. -/

namespace Sys2Proof.Machine

section stepsKeepMemory

theorem exec_mem {i : Instr} {s t : State} (h : exec i s = .next t) : t.mem = s.mem := by
  cases i
  case div => cases (exec_div s).symm.trans h; rfl
  case jumpTrue => cases (exec_jumpTrue s).symm.trans h; rfl
  case jumpFalse => cases (exec_jumpFalse s).symm.trans h; rfl
  all_goals cases h; rfl

theorem step_mem {s t : State} (h : step s = .next t) : t.mem = s.mem := by
  obtain ⟨-, ⟨i, -, hi⟩ | ⟨-, rfl⟩⟩ := step_cases h
  · exact exec_mem hi
  · rfl

theorem core_run_mem {n : Nat} {s t : State} (h : core.run n s = .next t) : t.mem = s.mem :=
  core_run_induction (P := fun s t => t.mem = s.mem) (fun _ => rfl)
    (fun _ _ _ hs ht => ht.trans (step_mem hs)) n s t h

theorem execute_mem {n : Nat} {s t : State} (h : execute n s = some t) : t.mem = s.mem :=
  execute_induction (P := fun s t => t.mem = s.mem) (fun _ _ => rfl)
    (fun _ _ _ hs ht => ht.trans (step_mem hs)) n s t h

end stepsKeepMemory

section canonicalArrays

theorem Memory.read_of_mem {m : Memory} (h : m.wf) {addr v : Byte} (hm : (addr.toNat, v) ∈ m) : m.read addr = v := by
  induction m with
  | nil => cases hm
  | cons c rest ih =>
    obtain ⟨k, w⟩ := c
    rcases List.mem_cons.1 hm with he | hm
    · cases he
      exact if_pos rfl
    · have below : k < addr.toNat := (List.pairwise_cons.1 h.1).1 _ hm
      exact (if_neg (Nat.ne_of_lt below)).trans (ih (Memory.wf_tail h) hm)

theorem Memory.mem_of_read_ne {m : Memory} {addr : Byte} (h : m.read addr ≠ Memory.unlisted) :
    (addr.toNat, m.read addr) ∈ m := by
  induction m with
  | nil => exact absurd rfl h
  | cons c rest ih =>
    obtain ⟨k, w⟩ := c
    simp only [Memory.read] at h ⊢
    split at h
    · next hk => simp [hk]
    · next hk => simp [hk, ih h]

/-- The reads of an array in canonical form determine which cells it lists. -/
theorem Memory.mem_iff {m : Memory} (h : m.wf) {c : Host.Cell} :
    c ∈ m ↔ ∃ addr : Byte, m.read addr ≠ Memory.unlisted ∧ (addr.toNat, m.read addr) = c := by
  constructor
  · intro hc
    obtain ⟨inside, listed⟩ := h.2 c hc
    have place : (BitVec.ofNat 8 c.1).toNat = c.1 := Nat.mod_eq_of_lt inside
    have value : m.read (BitVec.ofNat 8 c.1) = c.2 := Memory.read_of_mem h (by rwa [place])
    exact ⟨BitVec.ofNat 8 c.1, by rwa [value], by rw [place, value]⟩
  · rintro ⟨addr, listed, rfl⟩
    exact Memory.mem_of_read_ne listed

/-- Two arrays in canonical form are equal when they read alike: they list the same cells, in the one rising order. -/
theorem Memory.eq_of_read_eq {m₁ m₂ : Memory} (h₁ : m₁.wf) (h₂ : m₂.wf) (h : ∀ addr, m₁.read addr = m₂.read addr) :
    m₁ = m₂ := by
  have : Std.Irrefl fun p q : Host.Cell => p.1 < q.1 := ⟨fun c => Nat.lt_irrefl c.1⟩
  refine h₁.1.eq_of_mem_iff h₂.1 fun c => ?_
  rw [Memory.mem_iff h₁, Memory.mem_iff h₂]
  simp only [h]

end canonicalArrays

section resetAndLoad

theorem Memory.read_zeroFirst {m : Memory} (h : m.wf) (b : Byte) :
    ∀ n ≤ Config.arraySize, (Memory.zeroFirst n m).read b = if b.toNat < n then 0 else m.read b
  | 0, _ => rfl
  | n + 1, hn => by
    have place : (BitVec.ofNat 8 n).toNat = n := Nat.mod_eq_of_lt hn
    have zeroed : b.toNat < n + 1 ↔ b = BitVec.ofNat 8 n ∨ b.toNat < n := by
      rw [← BitVec.toNat_inj, place]
      omega
    rw [Memory.zeroFirst, Memory.read_write (Memory.zeroFirst_wf h n), Memory.read_zeroFirst h b n (Nat.le_of_lt hn)]
    simp only [zeroed, ite_or]

/-- Reset's loop over the 256 cells of an array leaves no cell to list (`70_reset_and_hazards.md` R160). -/
theorem Memory.zeroFirst_arraySize {m : Memory} (h : m.wf) : Memory.zeroFirst Config.arraySize m = [] :=
  Memory.eq_of_read_eq (Memory.zeroFirst_wf h _) Memory.wf_nil fun b =>
    (Memory.read_zeroFirst h b _ le_rfl).trans (if_pos b.isLt)

theorem State.resetOp_eq_reset {s : State} (hm : s.mem.wf) (hs : s.stack.wf) : s.resetOp = State.reset := by
  rw [State.resetOp, Memory.zeroFirst_arraySize hm, Memory.zeroFirst_arraySize hs]
  rfl

/-- After a load at `addr`, a cell holds the image's byte at its distance above `addr` (wrapping modulo 256), or what
it held before where the image is shorter than that. -/
theorem Memory.read_load (b : Byte) (image : List Byte) :
    ∀ {m : Memory} (addr : Byte), m.wf → image.length ≤ Config.arraySize →
      (m.load addr image).read b = image.getD (b - addr).toNat (m.read b) := by
  induction image with
  | nil => exact fun _ _ _ => rfl
  | cons v rest ih =>
    intro m addr h fits
    rw [Memory.load, ih _ (Memory.write_wf h addr v) (Nat.le_of_lt fits), Memory.read_write h]
    by_cases hb : b = addr
    · subst hb
      have wrapped : (b - (b + 1)).toNat = 255 := by bv_omega
      rw [wrapped, List.getD_eq_default _ _ (Nat.le_of_lt_succ fits), if_pos rfl, BitVec.sub_self]
      rfl
    · have closer : (b - addr).toNat = (b - (addr + 1)).toNat + 1 := by bv_omega
      rw [closer, if_neg hb]
      rfl

end resetAndLoad

/-! ## The statements about memory (`20_memory.md`) -/

/-- Settles O41. -/
theorem noInstructionWritesMemory : Obligations.NoInstructionWritesMemory := by
  intro i s
  obtain ⟨t, h⟩ := exec_answers_next i s
  exact ⟨t, h, fun addr => by rw [exec_mem h]⟩

/-- Settles O52: each step keeps memory, so a run does, by the induction over its steps. -/
theorem executeNeverChangesMemory : Obligations.ExecuteNeverChangesMemory := by
  rintro n s t (h | h) addr
  · rw [core_run_mem h]
  · rw [execute_mem h]

/-- Settles O55: Reset leaves the reset state, and the load then writes memory alone. -/
theorem aLoadedImageIsReadBack : Obligations.ALoadedImageIsReadBack := by
  intro s image hm hs hi
  have fits : image.length ≤ Config.arraySize := of_decide_eq_true hi
  have boot : s.boot image = { State.reset with mem := State.reset.mem.load 0 image } := by
    rw [State.boot, State.resetOp_eq_reset hm hs, State.loadImage, List.take_of_length_le fits]
  rw [boot]
  refine ⟨fun addr => ?read, rfl⟩
  case read =>
    rw [Memory.read_load addr image 0 State.reset_arrays_wf.1 fits, sub_zero]
    rfl

/-- Settles O57. -/
theorem equalReadsMeanEqualArrays : Obligations.EqualReadsMeanEqualArrays :=
  fun _ _ => Memory.eq_of_read_eq

end Sys2Proof.Machine

/-! ## The facts about decoding that the statements share: what the decoder reads from two bytes and from a list of
bytes, which opcode values have a handler, and what a running machine does with the opcode it fetches. -/

namespace Sys2Proof

section formats

/-- The two formats: an opcode alone, or an opcode and one immediate byte (`30_encoding.md` R60). -/
theorem Instr.format_cases (i : Instr) :
    (i.operandBytes = [] ∧ i.length = 1) ∨ ∃ imm8, i.operandBytes = [imm8] ∧ i.length = 2 := by
  cases i
  case setAVal imm8 | setXVal imm8 | setYVal imm8 | setZVal imm8 => exact .inr ⟨imm8, rfl, rfl⟩
  all_goals exact .inl ⟨rfl, rfl⟩

/-- What the decoder reads from two bytes: the instruction whose opcode is the first and whose operand, if it has one,
is the second. -/
theorem decodeBytes_eq_some_iff {op imm8 : Byte} {i : Instr} :
    decodeBytes op imm8 = some i ↔ i.opcode = op ∧ ∀ v ∈ i.operandBytes, v = imm8 := by
  constructor
  · intro h
    obtain rfl := Machine.opcode_of_decodeBytes h
    refine ⟨rfl, ?operand⟩
    cases i
    case setAVal | setXVal | setYVal | setZVal => cases h; exact List.forall_mem_singleton.2 rfl
    all_goals exact List.forall_mem_nil _
  · rintro ⟨rfl, operand⟩
    cases i
    case setAVal | setXVal | setYVal | setZVal => cases List.forall_mem_singleton.1 operand; rfl
    all_goals rfl

theorem decode_of_length_one {op : Byte} {rest : List Byte} {i : Instr} (h : decodeBytes op (rest.headD 0) = some i)
    (len : i.length = 1) : decode (op :: rest) = .ok (i, rest) := by
  simp only [decode, h, len]

theorem decode_of_length_two {op imm8 : Byte} {rest : List Byte} {i : Instr} (h : decodeBytes op imm8 = some i)
    (len : i.length = 2) : decode (op :: imm8 :: rest) = .ok (i, rest) := by
  simp only [decode, List.headD_cons, h, len]

/-- What the decoder reads from a list of bytes: an instruction and a rest, exactly where the list is the instruction's
encoding followed by the rest. -/
theorem decode_eq_ok_iff {bytes rest : List Byte} {i : Instr} :
    decode bytes = .ok (i, rest) ↔ encode i ++ rest = bytes := by
  constructor
  · intro h
    cases bytes with
    | nil => cases h
    | cons op tail =>
      cases hd : decodeBytes op (tail.headD 0) with
      | none => simp only [decode, hd, reduceCtorEq] at h
      | some j =>
        obtain ⟨rfl, operand⟩ := decodeBytes_eq_some_iff.1 hd
        obtain ⟨alone, len⟩ | ⟨imm8, two, len⟩ := j.format_cases
        · cases (decode_of_length_one hd len).symm.trans h
          rw [encode, alone]
          rfl
        · cases tail with
          | nil => simp only [decode, hd, len, reduceCtorEq] at h
          | cons v tail =>
            cases (decode_of_length_two hd len).symm.trans h
            rw [encode, two, operand imm8 (by simp [two])]
            rfl
  · rintro rfl
    obtain ⟨alone, len⟩ | ⟨imm8, two, len⟩ := i.format_cases
    · rw [encode, alone]
      exact decode_of_length_one (decodeBytes_eq_some_iff.2 ⟨rfl, by simp [alone]⟩) len
    · rw [encode, two]
      exact decode_of_length_two (decodeBytes_eq_some_iff.2 ⟨rfl, by simp [two]⟩) len

end formats

section handlers

@[simp] theorem handlerBound_opcode (i : Instr) : handlerBound i.opcode = i.wellFormed := by
  cases i <;> rfl

end handlers

section opcodeMap

/-- The row of the opcode map for an instruction: its opcode, and its number of bytes where it has a handler
(`30_encoding.md` R64). -/
def Instr.mapRow (i : Instr) : Byte × Instr × Option Nat :=
  (i.opcode, i, if i.wellFormed then some i.length else none)

theorem Instr.mapRow_bound (i : Instr) : i.wellFormed = i.mapRow.2.2.isSome := by
  cases h : i.wellFormed <;> simp [Instr.mapRow, h]

theorem Instr.length_encode (i : Instr) : (encode i).length = i.length := by
  obtain ⟨alone, len⟩ | ⟨imm8, two, len⟩ := i.format_cases
  · simp [encode, alone, len]
  · simp [encode, two, len]

theorem Instr.length_encode_of_mapRow {i : Instr} {n : Nat} (h : i.mapRow.2.2 = some n) : (encode i).length = n := by
  obtain ⟨-, len⟩ : i.wellFormed ∧ i.length = n := by simpa [Instr.mapRow] using h
  rw [i.length_encode, len]

/-- Each row of a list that agrees with `mapRow` and whose operands are copies of one byte is the row of an instruction
with no other operand than that byte. -/
theorem exists_mapRow_eq {rows : List (Byte × Instr × Option Nat)} {imm8 : Byte} {n : Nat}
    (agree : rows.map (fun row => row.2.1.mapRow) = rows)
    (operands : rows.flatMap (fun row => row.2.1.operandBytes) = List.replicate n imm8)
    {row : Byte × Instr × Option Nat} (h : row ∈ rows) :
    ∃ i : Instr, (∀ v ∈ i.operandBytes, v = imm8) ∧ i.mapRow = row := by
  refine ⟨row.2.1, fun v hv => ?operand, ?row⟩
  case operand =>
    have listed : v ∈ List.replicate n imm8 := operands ▸ List.mem_flatMap.2 ⟨row, h, hv⟩
    exact List.eq_of_mem_replicate listed
  case row => exact List.map_eq_map_iff.1 (agree.trans (List.map_id rows).symm) row h

end opcodeMap

end Sys2Proof

namespace Sys2Proof.Machine

/-- SHL and SHR, the names without a handler, mean the fail-stop for their own opcode (`30_encoding.md` R66, R67). -/
theorem exec_of_not_wellFormed {i : Instr} (h : i.wellFormed = false) (s : State) :
    exec i s = .next (s.unknownOpcode i.opcode) := by
  cases i
  case shl | shr => rfl
  all_goals cases h

section fetchedOpcode
variable {s : State} (hr : s.running)
include hr

theorem step_of_decodeBytes {i : Instr} (h : decodeBytes s.fetchOpcode s.fetchOperand = some i) :
    step s = exec i s := by
  simp [step, hr, h]

/-- A running machine whose fetched opcode has no handler takes the unknown-opcode fail-stop, whether the value has a
name or not (`70_reset_and_hazards.md` R162). -/
theorem step_of_unbound (h : handlerBound s.fetchOpcode = false) :
    step s = .next (s.unknownOpcode s.fetchOpcode) := by
  cases hd : decodeBytes s.fetchOpcode s.fetchOperand with
  | none => simp [step, hr, hd]
  | some i =>
    rw [step_of_decodeBytes hr hd]
    rw [← opcode_of_decodeBytes hd, handlerBound_opcode] at h
    rw [exec_of_not_wellFormed h, opcode_of_decodeBytes hd]

/-- A running machine whose two fetched bytes are an instruction's opcode and operand runs that instruction. -/
theorem step_of_opcode (i : Instr) (hop : s.fetchOpcode = i.opcode)
    (operand : ∀ v ∈ i.operandBytes, v = s.fetchOperand) : step s = exec i s :=
  step_of_decodeBytes hr (decodeBytes_eq_some_iff.2 ⟨hop.symm, operand⟩)

end fetchedOpcode

/-! ## The statements about the encoding (`30_encoding.md`) -/

/-- Settles O5: an encoding followed by any bytes is what the decoder reads as that instruction and those bytes. -/
theorem decodeOfEncodeIsTheInstruction : Obligations.DecodeOfEncodeIsTheInstruction :=
  fun _ _ => decode_eq_ok_iff.2 rfl

/-- Settles O6: the other direction of `decode_eq_ok_iff`. -/
theorem encodeOfDecodeIsTheBytes : Obligations.EncodeOfDecodeIsTheBytes :=
  fun _ _ _ => decode_eq_ok_iff.1

/-- Settles O7: each row is its instruction's own row, and only the four load-immediates have an operand, `imm8`. -/
theorem namedOpcodesDecodeAsTheMapSays : Obligations.NamedOpcodesDecodeAsTheMapSays := by
  intro imm8 row hrow
  obtain ⟨i, operand, rfl⟩ : ∃ i : Instr, (∀ v ∈ i.operandBytes, v = imm8) ∧ i.mapRow = row :=
    exists_mapRow_eq (n := 4) rfl rfl hrow
  exact ⟨decodeBytes_eq_some_iff.2 ⟨rfl, operand⟩, i.mapRow_bound, fun n hn => i.length_encode_of_mapRow hn⟩

/-- Settles O8, by looking up each of the 256 byte values in the table. -/
theorem exactlyTheListedValuesAreUnbound : Obligations.ExactlyTheListedValuesAreUnbound := by
  unfold Obligations.ExactlyTheListedValuesAreUnbound
  decide

/-- Settles O9: the step runs the load-immediate of the byte after the opcode. -/
theorem immediateIsTheByteAfterTheOpcode : Obligations.ImmediateIsTheByteAfterTheOpcode := by
  intro s hr
  rw [mod256_toNat_add_one]
  have itself : ∀ v ∈ [s.fetchOperand], v = s.fetchOperand := List.forall_mem_singleton.2 rfl
  refine ⟨fun h => ?a, fun h => ?x, fun h => ?y, fun h => ?z⟩
  case a => exact ⟨_, step_of_opcode hr (.setAVal s.fetchOperand) h itself, rfl⟩
  case x => exact ⟨_, step_of_opcode hr (.setXVal s.fetchOperand) h itself, rfl⟩
  case y => exact ⟨_, step_of_opcode hr (.setYVal s.fetchOperand) h itself, rfl⟩
  case z => exact ⟨_, step_of_opcode hr (.setZVal s.fetchOperand) h itself, rfl⟩

/-- Settles O11: the fail-stop writes F.HALT and the record, and nothing else (`State.failStop_eq`). -/
theorem unboundOpcodeTakesTheFailStop : Obligations.UnboundOpcodeTakesTheFailStop :=
  fun _ hr h => step_of_unbound hr h

/-- Settles O40. -/
theorem shlAndShrTakeTheUnknownOpcodeFailStop : Obligations.ShlAndShrTakeTheUnknownOpcodeFailStop :=
  fun s => ⟨exec_of_not_wellFormed (i := .shl) rfl s, exec_of_not_wellFormed (i := .shr) rfl s⟩

end Sys2Proof.Machine

/-! ## How a run can fail to return, and the statements about HALT and NOP (`40_basic.md`) -/

namespace Sys2Proof.Machine

section runsForEver

/-- An Execute never returns from a state of a set that every step stays in (`70_reset_and_hazards.md` R169). -/
theorem execute_eq_none_of_step_closed {P : State → Prop} (closed : ∀ s, P s → ∃ t, step s = .next t ∧ P t) :
    ∀ (n : Nat) {s : State}, P s → execute n s = none
  | 0, s, h => by
    obtain ⟨t, ht, -⟩ := closed s h
    have running : s.running := (step_cases ht).1
    simp [execute, running]
  | n + 1, s, h => by
    obtain ⟨t, ht, hP⟩ := closed s h
    rw [execute_succ_of_step ht]
    exact execute_eq_none_of_step_closed closed n hP

end runsForEver

/-- A running state that finds a NOP at every address. -/
def State.runsOnNops (s : State) : Prop := s.running ∧ ∀ addr, s.mem.read addr = Instr.nop.opcode

/-- A step of such a state is a NOP, which changes neither F.HALT nor memory. -/
theorem State.step_of_runsOnNops {s : State} (h : s.runsOnNops) :
    step s = .next (s.advance 1) ∧ (s.advance 1).runsOnNops := by
  obtain ⟨hr, nops⟩ := h
  exact ⟨step_of_opcode hr .nop (nops s.ip) (List.forall_mem_nil _), hr, nops⟩

/-- Settles O16: wherever IP goes in a memory of NOPs, the next step is a NOP again. -/
theorem nopOnlyAdvances : Obligations.NopOnlyAdvances := by
  intro s
  rw [mod256_toNat_add_one]
  refine ⟨rfl, fun hr nops n => ?never⟩
  case never =>
    have closed (t : State) (h : t.runsOnNops) : ∃ u, step t = .next u ∧ u.runsOnNops :=
      ⟨_, State.step_of_runsOnNops h⟩
    exact execute_eq_none_of_step_closed closed n ⟨hr, nops⟩

/-- Settles O15: HALT writes F.HALT and nothing else, and Execute returns a halted state as it is. -/
theorem haltSetsTheHaltFlagAndKeepsIp : Obligations.HaltSetsTheHaltFlagAndKeepsIp := by
  intro s
  have halted : (s.setFlags (s.flags.setHalt true)).halted := Flags.setHalt_halt true s.flags
  exact ⟨_, rfl, rfl, rfl, rfl, fun zero => zero, execute_of_halted halted⟩

end Sys2Proof.Machine

/-! ## What an instruction with its result in A leaves, in the rules' own numbers, and the statement about the logic
instructions (`41_logic.md`) -/

namespace Sys2Proof.Machine

section resultInA

theorem mod256_eq_zero_iff (n : Nat) : mod256 n = 0 ↔ n % 256 = 0 := by
  unfold mod256
  bv_omega

/-- A result in A, given as a value `w` equal to it and a condition for that value to be 0, which is what ZERO then
says (`10_state.md` R20). -/
theorem State.resultToA_eq_of_eq (s : State) {v w : Byte} {p : Prop} [Decidable p] (value : v = w)
    (zero : w = 0 ↔ p) :
    s.resultToA v = { s with
      a := w, flags := { s.flags with zero := decide p }, ip := mod256 (s.ip.toNat + 1) } := by
  subst value
  have flag : (v == 0) = decide p := decide_eq_decide.2 zero
  rw [State.resultToA_eq, flag, mod256_toNat_add_one]

end resultInA

section complement
variable (v : Byte)

/-- The complement is a subtraction from 255, which never borrows (`41_logic.md` R85). -/
theorem mod256_255_sub_toNat : mod256 (255 - v.toNat) = ~~~v := by
  unfold mod256
  bv_omega

theorem mod256_255_sub_toNat_eq_zero_iff : mod256 (255 - v.toNat) = 0 ↔ v.toNat = 255 := by
  rw [mod256_eq_zero_iff]
  omega

end complement

/-- Settles O19: the results are the complement of A, A, A and 0, by the laws of the bitwise operators for equal
operands. -/
theorem logicCombinesAWithItself : Obligations.LogicCombinesAWithItself := by
  intro s
  refine ⟨?not, List.forall_mem_cons.2 ⟨?and, List.forall_mem_singleton.2 ?or⟩, ?xor⟩
  case not =>
    exact congrArg _ (s.resultToA_eq_of_eq (mod256_255_sub_toNat s.a).symm (mod256_255_sub_toNat_eq_zero_iff s.a))
  case and => exact congrArg _ (s.resultToA_eq_of_eq BitVec.and_self BitVec.toNat_eq)
  case or => exact congrArg _ (s.resultToA_eq_of_eq BitVec.or_self BitVec.toNat_eq)
  case xor => exact congrArg _ (s.resultToA_eq_of_eq BitVec.xor_self (iff_true_intro rfl))

end Sys2Proof.Machine

/-! ## The byte operators in the rules' own numbers, and the statements about the arithmetic instructions
(`42_arithmetic.md`) -/

namespace Sys2Proof.Machine

section byteArithmetic
variable (v w : Byte)

theorem mod256_toNat : mod256 v.toNat = v := (mod256_toNat_add v 0).trans (add_zero v)

theorem mod256_toNat_add_toNat : mod256 (v.toNat + w.toNat) = v + w := by
  rw [mod256_toNat_add, BitVec.ofNat_toNat, BitVec.setWidth_eq]

/-- The difference modulo 256, by whether it borrows (`42_arithmetic.md` R92). -/
theorem mod256_toNat_sub_toNat :
    (if w.toNat ≤ v.toNat then mod256 (v.toNat - w.toNat) else mod256 (v.toNat + 256 - w.toNat)) = v - w := by
  unfold mod256
  split <;> bv_omega

theorem mod256_toNat_mul_toNat : mod256 (v.toNat * w.toNat) = v * w := by
  apply BitVec.eq_of_toNat_eq
  simp [mod256]

end byteArithmetic

/-- The two results of a division are the only quotient and remainder of its operands (`92_eei_decisions.md` D6). -/
theorem toNat_udiv_umod_of_eq {v w : Byte} {q r : Nat} (division : v.toNat = q * w.toNat + r) (below : r < w.toNat) :
    (v.udiv w).toNat = q ∧ (v.umod w).toNat = r := by
  have positive : 0 < w.toNat := Nat.zero_lt_of_lt below
  have sum : r + w.toNat * q = v.toNat := by rw [division, Nat.mul_comm, Nat.add_comm]
  obtain ⟨quotient, remainder⟩ := (Nat.div_mod_unique positive).2 ⟨sum, below⟩
  exact ⟨BitVec.toNat_udiv.trans quotient, BitVec.toNat_umod.trans remainder⟩

/-- Settles O20: each result is the byte operator's, and a difference is 0 exactly between equal bytes. -/
theorem addSubMulWrapModulo256 : Obligations.AddSubMulWrapModulo256 := by
  intro s
  refine ⟨?add, ?sub, ?mul⟩
  case add =>
    exact congrArg _ (s.resultToA_eq_of_eq (mod256_toNat_add_toNat s.a s.z).symm (mod256_eq_zero_iff _))
  case sub =>
    rw [mod256_toNat_sub_toNat]
    exact congrArg _ (s.resultToA_eq_of_eq rfl sub_eq_zero)
  case mul =>
    exact congrArg _ (s.resultToA_eq_of_eq (mod256_toNat_mul_toNat s.a s.z).symm (mod256_eq_zero_iff _))

/-- Settles O21: Z is not 0, as a remainder is below it, and the given quotient and remainder are DIV's. -/
theorem divGivesQuotientAndRemainder : Obligations.DivGivesQuotientAndRemainder := by
  intro s q r division below
  have nonzero : s.z ≠ 0 := fun hz => Nat.ne_zero_of_lt below (congrArg BitVec.toNat hz)
  obtain ⟨rfl, rfl⟩ := toNat_udiv_umod_of_eq division below
  obtain ⟨-, answer⟩ := (execDiv_cases s).resolve_left fun ⟨hz, _⟩ => nonzero hz
  rw [mod256_toNat, mod256_toNat]
  exact answer.trans (congrArg _ (State.resultToA_eq_of_eq _ rfl BitVec.toNat_eq))

end Sys2Proof.Machine

/-! ## The statement about INC and DEC (`43_incdec.md`) -/

namespace Sys2Proof.Machine

/-- A byte plus `k` wraps to 0 from one value only: 255 for INC's 1, and 1 for DEC's 255. -/
theorem mod256_toNat_add_eq_zero_iff (v : Byte) {k : Nat} (positive : 0 < k) (bound : k ≤ 256) :
    mod256 (v.toNat + k) = 0 ↔ v.toNat = 256 - k := by
  rw [mod256_eq_zero_iff]
  omega

/-- Settles O23: both are results in A, of the byte's own wrapping addition and subtraction of 1. -/
theorem incAndDecWrapModulo256 : Obligations.IncAndDecWrapModulo256 := by
  intro s
  refine ⟨?inc, ?dec⟩
  case inc =>
    have zero : mod256 (s.a.toNat + 1) = 0 ↔ s.a.toNat = 255 :=
      mod256_toNat_add_eq_zero_iff s.a (by decide) (by decide)
    exact congrArg _ (s.resultToA_eq_of_eq (mod256_toNat_add_one s.a).symm zero)
  case dec =>
    have zero : mod256 (s.a.toNat + 255) = 0 ↔ s.a.toNat = 1 :=
      mod256_toNat_add_eq_zero_iff s.a (by decide) (by decide)
    exact congrArg _ (s.resultToA_eq_of_eq (mod256_toNat_add_255 s.a).symm zero)

end Sys2Proof.Machine

/-! ## The statement about the load-immediates (`44_load_immediate.md`) -/

namespace Sys2Proof.Machine

/-- A load-immediate into any register, with ZERO and IP in the rules' own numbers (`44_load_immediate.md` R100). -/
theorem State.loadImmediate_eq_decide_mod256 (s : State) (r : Reg) (v : Byte) :
    s.loadImmediate r v = { s.setReg r v with
      flags := { s.flags with zero := decide (v = 0) }, ip := mod256 (s.ip.toNat + 2) } := by
  rw [State.loadImmediate_eq, beq_eq_decide, mod256_toNat_add_two]

/-- Settles O24: the four are one operation, at the register each names. -/
theorem loadImmediateWritesOneRegisterAndZero : Obligations.LoadImmediateWritesOneRegisterAndZero := by
  intro s v
  have load (r : Reg) := congrArg (.next : State → Result) (s.loadImmediate_eq_decide_mod256 r v)
  exact ⟨load .a, load .x, load .y, load .z⟩

end Sys2Proof.Machine

/-! ## The register pushes and pulls as one operation each, and the statements about the stack (`45_stack.md`) -/

namespace Sys2Proof.Machine

section registerPushesAndPulls

/-- The register pushes, each with the register it pushes (`45_stack.md` R107 to R110). -/
def registerPushes : List (Instr × Reg) :=
  [(.pushA, .a), (.pushX, .x), (.pushY, .y), (.pushZ, .z)]

/-- The register pulls, each with the register it pulls into (`45_stack.md` R113 to R116). -/
def registerPulls : List (Instr × Reg) :=
  [(.pullA, .a), (.pullX, .x), (.pullY, .y), (.pullZ, .z)]

theorem exec_registerPush (s : State) :
    ∀ p ∈ registerPushes, exec p.1 s = .next (s.pushValue (s.reg p.2)) := by
  simp only [registerPushes, List.forall_mem_cons]
  exact ⟨rfl, rfl, rfl, rfl, List.forall_mem_nil _⟩

theorem exec_registerPull (s : State) : ∀ p ∈ registerPulls, exec p.1 s = .next (s.pullReg p.2) := by
  simp only [registerPulls, List.forall_mem_cons]
  exact ⟨rfl, rfl, rfl, rfl, List.forall_mem_nil _⟩

end registerPushesAndPulls

section pushedAndPulled
variable (s : State) (v : Byte) (r q : Reg)

@[simp] theorem State.pushValue_sp : (s.pushValue v).sp = s.sp + 1 := rfl
@[simp] theorem State.pushValue_ip : (s.pushValue v).ip = s.ip + 1 := rfl
@[simp] theorem State.pushValue_flags : (s.pushValue v).flags = s.flags := rfl
@[simp] theorem State.reg_pushValue : (s.pushValue v).reg q = s.reg q := by cases q <;> rfl

theorem State.stack_read_pushValue_sp (hs : s.stack.wf) : (s.pushValue v).stack.read s.sp = v :=
  (State.stack_read_pushValue hs v s.sp).trans (if_pos rfl)

@[simp] theorem State.pullReg_sp : (s.pullReg r).sp = s.sp - 1 := by rw [State.pullReg_eq]
@[simp] theorem State.pullReg_ip : (s.pullReg r).ip = s.ip + 1 := by rw [State.pullReg_eq]
@[simp] theorem State.pullReg_flags : (s.pullReg r).flags = s.flags := by simp [State.pullReg_eq]
@[simp] theorem State.reg_pullReg_self : (s.pullReg r).reg r = s.stack.read (s.sp - 1) := by cases r <;> rfl

end pushedAndPulled

/-- Settles O25: each push writes one cell (`State.stack_read_pushValue`), and no register. -/
theorem pushWritesThenIncrements : Obligations.PushWritesThenIncrements := by
  intro s hs p hp
  rw [mod256_toNat_add_one, mod256_toNat_add_one]
  refine ⟨_, exec_registerPush s p hp, ?pushed, fun c hc => ?others, rfl, rfl, fun r => ?reg, rfl⟩
  case pushed => exact s.stack_read_pushValue_sp _ hs
  case others => exact (State.stack_read_pushValue hs _ c).trans (if_neg hc)
  case reg => exact s.reg_pushValue _ r

/-- Settles O26: the byte pushed is the composed one, whose bits are the flags; bit 5 is F.HALT. -/
theorem pushStatusPushesTheComposedByte : Obligations.PushStatusPushesTheComposedByte := by
  intro s hs
  have pushed : (s.pushValue s.flags.compose).stack.read s.sp = s.flags.compose :=
    s.stack_read_pushValue_sp _ hs
  obtain ⟨carry, zero, trueFalse, interrupt, decimal, halt, overflow, negative⟩ := s.flags.compose_getLsbD
  refine ⟨s.pushValue s.flags.compose, rfl, pushed, ?sp, ?ip, rfl, ?bits⟩
  case sp => exact (mod256_toNat_add_one s.sp).symm
  case ip => exact (mod256_toNat_add_one s.ip).symm
  case bits =>
    rw [pushed]
    exact ⟨halt.trans, carry, zero, trueFalse, interrupt, decimal, overflow, negative⟩

/-- Settles O27: the four are one operation, at the register each names (`State.pullReg_eq`). -/
theorem pullDecrementsThenReads : Obligations.PullDecrementsThenReads := by
  intro s
  rw [mod256_toNat_add_255, mod256_toNat_add_one]
  have pull (r : Reg) := congrArg (.next : State → Result) (s.pullReg_eq r)
  exact ⟨pull .a, pull .x, pull .y, pull .z⟩

/-- Settles O28: composing the decomposed byte gives it back, and its bit 5 is the next state's F.HALT. -/
theorem pullStatusLoadsEveryFlag : Obligations.PullStatusLoadsEveryFlag := by
  intro s
  rw [mod256_toNat_add_255, mod256_toNat_add_one]
  refine ⟨_, exec_pullStatus s, Flags.compose_decompose _, rfl, rfl, rfl, fun r => ?reg, fun bit5 => ?halted⟩
  case reg => cases r <;> rfl
  case halted => exact execute_of_halted bit5

/-- Settles O29: the pull reads the cell just pushed (`State.stack_read_pushValue_top`), whichever the registers. -/
theorem pushThenPullCopiesTheRegister : Obligations.PushThenPullCopiesTheRegister := by
  intro s hs p hp q hq
  refine ⟨_, _, exec_registerPush s p hp, exec_registerPull _ q hq, ?copied, ?sp, ?ip, ?flags⟩
  case copied => rw [State.reg_pullReg_self, State.stack_read_pushValue_top hs]
  case sp =>
    rw [State.pullReg_sp, State.pushValue_sp]
    exact BitVec.add_sub_cancel s.sp 1
  case ip =>
    rw [State.pullReg_ip, State.pushValue_ip, mod256_toNat_add_two]
    exact BitVec.add_assoc s.ip 1 1
  case flags => rw [State.pullReg_flags, State.pushValue_flags]

end Sys2Proof.Machine

/-! ## An instruction that writes the flags alone, and the statement about the clears (`46_flag_clear.md`) -/

namespace Sys2Proof.Machine

/-- What the flag clears and the flag sets answer: the flags written, and the next opcode's address. -/
theorem State.exists_next_setFlags_advance (s : State) (f : Flags) :
    ∃ t, (.next ((s.setFlags f).advance 1) : Result) = .next t ∧ t.flags = f ∧ t.ip = mod256 (s.ip.toNat + 1) :=
  ⟨_, rfl, rfl, (mod256_toNat_add_one s.ip).symm⟩

/-- Settles O33: each clear is one write of the flags; CLEAR_STATUS writes those of the byte 0, which compose to it. -/
theorem flagClearsTouchTheirFlagOnly : Obligations.FlagClearsTouchTheirFlagOnly := by
  intro s
  have write := s.exists_next_setFlags_advance
  refine ⟨?status, write (s.flags.setCarry false), write (s.flags.setDecimalMode false),
    write (s.flags.setInterruptDisable false), write (s.flags.setOverflow false)⟩
  case status =>
    obtain ⟨t, answer, flags, ip⟩ := write (Flags.decompose 0)
    exact ⟨t, answer, (congrArg Flags.compose flags).trans (Flags.compose_decompose 0), ip⟩

end Sys2Proof.Machine

/-! ## The two whole-status writes as record equations, and the statements about the sets (`47_flag_set.md`) -/

namespace Sys2Proof.Machine

section wholeStatusWrites
variable (s : State)

/-- SET_STATUS: all eight flags from the bits of A, and IP (`47_flag_set.md` R123). -/
theorem exec_setStatus :
    exec .setStatus s = .next { s with flags := Flags.decompose s.a, ip := s.ip + 1 } := rfl

/-- SET_CARRY: all eight flags from the bits of the parameter, and IP (`47_flag_set.md` R124). -/
theorem exec_setCarry :
    exec .setCarry s = .next { s with flags := Flags.decompose Config.setCarryStatusValue, ip := s.ip + 1 } := rfl

end wholeStatusWrites

/-- Settles O34: composing the decomposed A gives A back, and its bit 5 is the next state's F.HALT. -/
theorem setStatusLoadsEveryFlagFromA : Obligations.SetStatusLoadsEveryFlagFromA := by
  intro s
  rw [mod256_toNat_add_one]
  refine ⟨_, exec_setStatus s, Flags.compose_decompose _, Flags.decompose_zero _, rfl, rfl, rfl, fun bit5 => ?halted⟩
  case halted => exact ⟨bit5, execute_of_halted bit5⟩

/-- Settles O35: the flags written are those of the parameter whatever the state, so a second write is the first. -/
theorem setCarryWritesTheWholeStatus : Obligations.SetCarryWritesTheWholeStatus := by
  intro s
  rw [mod256_toNat_add_one]
  refine ⟨_, exec_setCarry s, Flags.compose_decompose _, rfl, ?again, Flags.decompose_halt _⟩
  case again => exact ⟨_, exec_setCarry _, rfl⟩

/-- Settles O36: each set is one write of the flags, with its own flag assigned. -/
theorem flagSetsTouchTheirFlagOnly : Obligations.FlagSetsTouchTheirFlagOnly := by
  intro s
  have write := s.exists_next_setFlags_advance
  exact ⟨write (s.flags.setDecimalMode true), write (s.flags.setInterruptDisable true),
    write (s.flags.setOverflow true)⟩

end Sys2Proof.Machine

/-! ## What halts a machine and what records a fault, and the statements about the invariant (`60_exceptions.md`) -/

namespace Sys2Proof

theorem Instr.wellFormed_eq_false_iff {i : Instr} : i.wellFormed = false ↔ i = .shl ∨ i = .shr := by
  cases i <;> simp [Instr.wellFormed]

theorem handlerBound_of_decodeBytes_eq_none {op imm8 : Byte} (h : decodeBytes op imm8 = none) :
    handlerBound op = false := by
  cases hd : decodeBytes op 0 with
  | none => simp only [handlerBound, hd]
  | some i =>
    obtain rfl := Machine.opcode_of_decodeBytes hd
    cases i <;> cases h

end Sys2Proof

namespace Sys2Proof.Machine

section haltAndFault
variable {i : Instr} {s t : State}

/-- What an instruction can do to F.HALT and to the fault record: it halts no running machine and records nothing, or
it is HALT, one of the two fail-stops, or a whole-status write that completes (`60_exceptions.md` R150). -/
theorem exec_halt_fault_cases (h : exec i s = .next t) :
    ((t.halted → s.halted) ∧ t.fault = s.fault) ∨
      (i = .halt ∧ t.ip = s.ip ∧ t.fault = s.fault) ∨
      (i.wellFormed = false ∧ t = s.unknownOpcode i.opcode) ∨
      (i = .div ∧ s.z = 0 ∧ t = s.divideByZero) ∨
      (i ∈ [.pullStatus, .setStatus, .setCarry] ∧ t.ip = s.ip + 1 ∧ t.fault = s.fault) := by
  cases i
  case halt => cases h; exact .inr (.inl ⟨rfl, rfl, rfl⟩)
  case shl | shr => cases h; exact .inr (.inr (.inl ⟨rfl, rfl⟩))
  case div =>
    obtain ⟨hz, stop⟩ | ⟨-, result⟩ := execDiv_cases s
    · cases stop.symm.trans h; exact .inr (.inr (.inr (.inl ⟨rfl, hz, rfl⟩)))
    · cases result.symm.trans h; exact .inl ⟨id, rfl⟩
  case pullStatus | setStatus | setCarry => cases h; exact .inr (.inr (.inr (.inr ⟨by simp, rfl, rfl⟩)))
  case clearStatus => cases h; exact .inl ⟨nofun, rfl⟩
  case jumpTrue => cases (exec_jumpTrue s).symm.trans h; exact .inl ⟨id, rfl⟩
  case jumpFalse => cases (exec_jumpFalse s).symm.trans h; exact .inl ⟨id, rfl⟩
  all_goals cases h; exact .inl ⟨id, rfl⟩

/-- The same of a step, by the opcode it fetches: the four ways in which it halts the machine come last. -/
theorem step_halt_fault_cases (h : step s = .next t) :
    (t.running ∧ t.fault = s.fault) ∨
      (s.fetchOpcode = 0 ∧ t.ip = s.ip ∧ t.fault = s.fault) ∨
      (handlerBound s.fetchOpcode = false ∧ t = s.unknownOpcode s.fetchOpcode) ∨
      (s.fetchOpcode = 23 ∧ s.z = 0 ∧ t = s.divideByZero) ∨
      (s.fetchOpcode ∈ [65, 75, 76] ∧ t.ip = s.ip + 1 ∧ t.fault = s.fault) := by
  obtain ⟨running, ⟨i, hi, answer⟩ | ⟨unnamed, rfl⟩⟩ := step_cases h
  · rw [← opcode_of_decodeBytes hi, handlerBound_opcode]
    obtain ⟨halts, fault⟩ | ⟨rfl, ip, fault⟩ | ⟨unbound, stop⟩ | ⟨rfl, hz, stop⟩ | ⟨write, ip, fault⟩ :=
      exec_halt_fault_cases answer
    · exact .inl ⟨Bool.eq_false_of_not_eq_true fun halted => Bool.eq_false_iff.1 running (halts halted), fault⟩
    · exact .inr (.inl ⟨rfl, ip, fault⟩)
    · exact .inr (.inr (.inl ⟨unbound, stop⟩))
    · exact .inr (.inr (.inr (.inl ⟨rfl, hz, stop⟩)))
    · exact .inr (.inr (.inr (.inr ⟨List.mem_map_of_mem (f := Instr.opcode) write, ip, fault⟩)))
  · exact .inr (.inr (.inl ⟨handlerBound_of_decodeBytes_eq_none unnamed, rfl⟩))

end haltAndFault

section invariant
variable {s : State}

theorem State.recordAgrees_of_fault_eq_none (h : s.fault = .none) : s.recordAgrees := by
  simp only [State.recordAgrees, h]

theorem State.recordAgrees_iff_of_unknownOpcode {op ip : Byte} (h : s.fault = .unknownOpcode op ip) :
    s.recordAgrees ↔ s.halted ∧ ip = s.ip ∧ s.mem.read s.ip = op ∧ handlerBound op = false := by
  simp only [State.recordAgrees, h]

theorem State.recordAgrees_iff_of_divideByZero {ip : Byte} (h : s.fault = .divideByZero ip) :
    s.recordAgrees ↔ s.halted ∧ ip = s.ip ∧ s.mem.read s.ip = 23 ∧ s.z = 0 := by
  simp only [State.recordAgrees, h]

theorem State.recordAgrees_unknownOpcode (h : handlerBound s.fetchOpcode = false) :
    (s.unknownOpcode s.fetchOpcode).recordAgrees :=
  (State.recordAgrees_iff_of_unknownOpcode rfl).2 ⟨rfl, rfl, rfl, h⟩

theorem State.recordAgrees_divideByZero (h : s.fetchOpcode = 23) (hz : s.z = 0) : s.divideByZero.recordAgrees :=
  (State.recordAgrees_iff_of_divideByZero rfl).2 ⟨rfl, rfl, h, hz⟩

/-- A machine that still runs has recorded nothing: a record agrees with a halted machine only. -/
theorem State.Inv.fault_eq_none (h : s.Inv) (running : s.running) : s.fault = .none := by
  have notHalted : ¬ s.halted := Bool.eq_false_iff.1 running
  cases fault : s.fault with
  | none => rfl
  | unknownOpcode => exact absurd ((State.recordAgrees_iff_of_unknownOpcode fault).1 h.record).1 notHalted
  | divideByZero => exact absurd ((State.recordAgrees_iff_of_divideByZero fault).1 h.record).1 notHalted

theorem exec_stack_wf {i : Instr} {t : State} (h : exec i s = .next t) (hs : s.stack.wf) : t.stack.wf := by
  cases i
  case pushStatus | pushA | pushX | pushY | pushZ => cases h; exact Memory.write_wf hs _ _
  case div => cases (exec_div s).symm.trans h; exact hs
  case jumpTrue => cases (exec_jumpTrue s).symm.trans h; exact hs
  case jumpFalse => cases (exec_jumpFalse s).symm.trans h; exact hs
  all_goals cases h; exact hs

theorem step_stack_wf {t : State} (h : step s = .next t) (hs : s.stack.wf) : t.stack.wf := by
  obtain ⟨-, ⟨i, -, answer⟩ | ⟨-, rfl⟩⟩ := step_cases h
  · exact exec_stack_wf answer hs
  · exact hs

end invariant

/-- Settles O4: a step starts without a record, so the record it leaves is none or the one its own fail-stop made. -/
theorem stepKeepsTheInvariant : Obligations.StepKeepsTheInvariant := by
  intro s t inv h
  have unrecorded : s.fault = .none := inv.fault_eq_none (step_cases h).1
  refine ⟨?mem, step_stack_wf h inv.stackWf, ?record⟩
  case mem => rw [step_mem h]; exact inv.memWf
  case record =>
    obtain ⟨-, fault⟩ | ⟨-, -, fault⟩ | ⟨unbound, rfl⟩ | ⟨div, hz, rfl⟩ | ⟨-, -, fault⟩ := step_halt_fault_cases h
    · exact State.recordAgrees_of_fault_eq_none (fault.trans unrecorded)
    · exact State.recordAgrees_of_fault_eq_none (fault.trans unrecorded)
    · exact State.recordAgrees_unknownOpcode unbound
    · exact State.recordAgrees_divideByZero div hz
    · exact State.recordAgrees_of_fault_eq_none (fault.trans unrecorded)

/-- Settles O47: SHL and SHR are the instructions without a handler. -/
theorem onlyTwoCausesRecordAFault : Obligations.OnlyTwoCausesRecordAFault := by
  intro i s
  obtain ⟨t, h⟩ := exec_answers_next i s
  refine ⟨t, h, ?record⟩
  obtain ⟨-, fault⟩ | ⟨-, -, fault⟩ | ⟨unbound, rfl⟩ | ⟨rfl, hz, rfl⟩ | ⟨-, -, fault⟩ := exec_halt_fault_cases h
  · exact .inl fault
  · exact .inl fault
  · obtain rfl | rfl := Instr.wellFormed_eq_false_iff.1 unbound
    · exact .inr (.inr (.inl ⟨rfl, rfl⟩))
    · exact .inr (.inr (.inr ⟨rfl, rfl⟩))
  · exact .inr (.inl ⟨rfl, hz, rfl⟩)
  · exact .inl fault

/-- Settles O51: the machine was running, so the step did halt it, and a way that records nothing leaves no record. -/
theorem aStepHaltsInOneOfFourWays : Obligations.AStepHaltsInOneOfFourWays := by
  intro s t inv h halted
  have unrecorded : s.fault = .none := inv.fault_eq_none (step_cases h).1
  rw [mod256_toNat_add_one]
  obtain ⟨running, -⟩ | ⟨halt, ip, fault⟩ | ⟨unbound, rfl⟩ | ⟨div, hz, rfl⟩ | ⟨write, ip, fault⟩ :=
    step_halt_fault_cases h
  · exact absurd halted (Bool.eq_false_iff.1 running)
  · exact .inl ⟨halt, ip, fault.trans unrecorded⟩
  · exact .inr (.inl ⟨unbound, rfl, rfl⟩)
  · exact .inr (.inr (.inl ⟨div, hz, hz, rfl, rfl⟩))
  · exact .inr (.inr (.inr ⟨write, ip, fault.trans unrecorded⟩))

/-- Settles O54: every step keeps the invariant, so a run does, and the memory it ends in is the one it started with. -/
theorem runsKeepTheInvariant : Obligations.RunsKeepTheInvariant := by
  intro n s t inv h
  have kept : t.Inv :=
    execute_induction (P := fun s t => s.Inv → t.Inv) (fun _ _ => id)
      (fun _ _ _ hs ht inv => ht (stepKeepsTheInvariant _ _ inv hs)) n s t h inv
  rw [← execute_mem h]
  refine ⟨kept, fun op ip fault => ?unknown, fun ip fault => ?divide⟩
  case unknown =>
    obtain ⟨-, rfl, opcode, unbound⟩ := (State.recordAgrees_iff_of_unknownOpcode fault).1 kept.record
    exact ⟨rfl, opcode, unbound⟩
  case divide =>
    obtain ⟨-, rfl, opcode, hz⟩ := (State.recordAgrees_iff_of_divideByZero fault).1 kept.record
    exact ⟨rfl, opcode, hz⟩

/-- Settles O22: DIV's fail-stop writes F.HALT and the record, and nothing else (`State.failStop_eq`). -/
theorem divByZeroFailStops : Obligations.DivByZeroFailStops := by
  intro s hz
  obtain ⟨-, answer⟩ := (execDiv_cases s).resolve_right fun ⟨nonzero, _⟩ => nonzero hz
  exact answer

end Sys2Proof.Machine

/-! ## The comparisons in the rules' own numbers, and the statement about them (`48_compare.md`) -/

namespace Sys2Proof.Machine

/-- A comparison, with its outcome given as a condition on numbers (`48_compare.md` R129). -/
theorem State.compare_eq_of_iff (s : State) {holds : Bool} {p : Prop} [Decidable p] (outcome : holds = true ↔ p) :
    s.compare holds =
      { s with flags := { s.flags with trueFalse := decide p }, ip := mod256 (s.ip.toNat + 1) } := by
  have flag : holds = decide p := Bool.eq_iff_iff.2 (outcome.trans decide_eq_true_iff.symm)
  rw [State.compare_eq, flag, mod256_toNat_add_one]

/-- Settles O37: the byte comparisons are the unsigned relations of the numbers. -/
theorem comparisonsAssignTrueFalse : Obligations.ComparisonsAssignTrueFalse := by
  intro s
  simp only [List.forall_mem_cons]
  refine ⟨?eq, ?gr, ?gre, ?ls, ?lse, List.forall_mem_nil _⟩
  case eq => exact congrArg _ (s.compare_eq_of_iff (beq_iff_eq.trans BitVec.toNat_inj.symm))
  case gr => exact congrArg _ (s.compare_eq_of_iff BitVec.ult_iff_toNat_lt)
  case gre => exact congrArg _ (s.compare_eq_of_iff BitVec.ule_iff_toNat_le)
  case ls => exact congrArg _ (s.compare_eq_of_iff BitVec.ult_iff_toNat_lt)
  case lse => exact congrArg _ (s.compare_eq_of_iff BitVec.ule_iff_toNat_le)

end Sys2Proof.Machine

/-! ## A step that changes nothing, and the statements about JUMP and the conditional jumps (`49_jump.md`) and about
BREAK (`40_basic.md`) -/

namespace Sys2Proof.Machine

/-- Execute never returns from a state that its own step answers. -/
theorem execute_eq_none_of_step_self {s : State} (h : step s = .next s) (n : Nat) : execute n s = none :=
  execute_eq_none_of_step_closed (P := (· = s)) (fun _ same => ⟨s, same ▸ h, rfl⟩) n rfl

@[simp] theorem State.reg_jumpTo (s : State) (v : Byte) (r : Reg) : (s.jumpTo v).reg r = s.reg r := by
  cases r <;> rfl

theorem step_of_jump {s : State} (hr : s.running) (h : s.fetchOpcode = 90) : step s = .next (s.jumpTo s.a) :=
  step_of_opcode hr .jump h (List.forall_mem_nil _)

/-- Settles O38: JUMP writes IP alone; a zero byte there is HALT's opcode, and a jump to itself changes nothing. -/
theorem jumpGoesToA : Obligations.JumpGoesToA := by
  intro s
  refine ⟨⟨_, rfl, rfl, rfl, s.reg_jumpTo s.a⟩, fun hr jump => ?fetch, fun hr jump zero => ?halt,
    fun hr jump itself => ?never⟩
  case fetch => exact ⟨_, step_of_jump hr jump, rfl⟩
  case halt =>
    have halts : step (s.jumpTo s.a) = exec .halt (s.jumpTo s.a) :=
      step_of_opcode (s := s.jumpTo s.a) hr .halt zero (List.forall_mem_nil _)
    exact ⟨_, step_of_jump hr jump, halts.symm, rfl⟩
  case never =>
    have same : s.jumpTo s.a = s := by rw [itself]; rfl
    exact execute_eq_none_of_step_self ((step_of_jump hr jump).trans (congrArg _ same))

/-- Settles O39: both write IP alone (`exec_jumpTrue`, `exec_jumpFalse`). -/
theorem conditionalJumpsFollowTrueFalse : Obligations.ConditionalJumpsFollowTrueFalse := by
  intro s
  rw [mod256_toNat_add_one]
  exact ⟨⟨_, exec_jumpTrue s, rfl, rfl, s.reg_jumpTo _⟩, ⟨_, exec_jumpFalse s, by simp, rfl, s.reg_jumpTo _⟩⟩

/-- Settles O17 (`40_basic.md` R82, the spec's decision D2). -/
theorem breakChangesNothing : Obligations.BreakChangesNothing := fun _ => rfl

/-- Settles O18: the step of a BREAK answers the state it started from. -/
theorem aReachedBreakIsNeverLeft : Obligations.AReachedBreakIsNeverLeft := by
  intro s hr brk
  have same : step s = .next s :=
    (step_of_opcode hr .brk brk (List.forall_mem_nil _)).trans (breakChangesNothing s)
  exact execute_eq_none_of_step_self same

end Sys2Proof.Machine

/-! ## The statements about Reset and the fetch-decode-execute loop (`70_reset_and_hazards.md`) -/

namespace Sys2Proof.Machine

/-- Settles O2. -/
theorem resetOperationGivesTheResetState : Obligations.ResetOperationGivesTheResetState :=
  fun _ => State.resetOp_eq_reset

/-- Settles O56: the load keeps the canonical form, so Reset leaves the reset state, whose IP addresses a HALT. -/
theorem resetErasesALoadedProgram : Obligations.ResetErasesALoadedProgram := by
  intro s image hm hs
  have reset : (s.loadImage image).resetOp = State.reset :=
    State.resetOp_eq_reset (Memory.load_wf _ hm 0) hs
  have halt : step State.reset = exec .halt State.reset :=
    step_of_opcode (s := State.reset) rfl .halt rfl (List.forall_mem_nil _)
  rw [reset, execute_succ_of_step halt]
  exact execute_of_halted rfl 0

/-- Settles O14: with or without an instruction in the fetched bytes, there is a next state. -/
theorem everyRunningStateHasAStep : Obligations.EveryRunningStateHasAStep := by
  intro s hr
  cases hd : decodeBytes s.fetchOpcode s.fetchOperand with
  | none => exact ⟨_, step_of_unbound hr (handlerBound_of_decodeBytes_eq_none hd)⟩
  | some i =>
    rw [step_of_decodeBytes hr hd]
    exact exec_answers_next i s

/-- Settles O10: the two bytes are the instruction's encoding and a rest, so the operand, if there is one, is the
second. -/
theorem stepRunsTheDecodedInstruction : Obligations.StepRunsTheDecodedInstruction := by
  intro s i rest hr h
  rw [mod256_toNat_add_one] at h
  obtain ⟨opcode, tail⟩ := List.cons.inj (decode_eq_ok_iff.1 h)
  have operand : ∀ v ∈ i.operandBytes, v = s.fetchOperand := fun v hv =>
    List.mem_singleton.1 (tail ▸ List.mem_append_left rest hv)
  exact step_of_opcode hr i opcode.symm operand

/-- Settles O12: a halted state is returned as it is, and after a step of a running one Execute goes on. -/
theorem executeIsTheFetchDecodeLoop : Obligations.ExecuteIsTheFetchDecodeLoop := by
  intro s n
  rw [mod256_toNat_add_one]
  refine ⟨fun halted => execute_of_halted halted n, fun hr unbound => ?unbound, fun hr i t hi answer => ?bound⟩
  case unbound => exact execute_succ_of_step (step_of_unbound hr unbound) n
  case bound => exact execute_succ_of_step ((step_of_decodeBytes hr hi).trans answer) n

end Sys2Proof.Machine
